-- ==== Sys2Proof/Word.lean ====
section
/-! DEFINITION. The words of the block and the enumerated types of its vocabulary (00_scope.md R9, R14). -/

namespace Sys2Proof

/-- A 32-bit wire frame; bit 31 is the first on the wire (R9, R60). -/
abbrev Frame := BitVec 32

/-- One byte of a frame, or of the serializer's shift register (R22). -/
abbrev Byte := BitVec 8

/-- A 4-bit field of a frame: a command, address or feature code (R10, R80). -/
abbrev Nibble := BitVec 4

/-- The 16-bit data field of a frame, or a sample value (R7, R11). -/
abbrev Sample := BitVec 16

/-- One of the eight analog output paths (R14, R16). -/
inductive Channel where
  | A | B | C | D | E | F | G | H
  deriving DecidableEq, Repr, Inhabited

/-- The channels in ascending order, the order of writeAllChannels (R71, R185). -/
def Channel.all : List Channel := [.A, .B, .C, .D, .E, .F, .G, .H]

/-- A channel, or the pseudo-address for all of them (R14, R16). -/
inductive ChannelAddress where
  | chan (c : Channel)
  | broadcast
  deriving DecidableEq, Repr, Inhabited

/-- The four device power modes (R14). -/
inductive PowerMode where
  | powerUp | powerDownTo1k | powerDownTo100k | powerDownHiZ
  deriving DecidableEq, Repr, Inhabited

/-- The four clear codes (R14). -/
inductive ClearCodeMode where
  | zeroScale | midScale | fullScale | noOperation
  deriving DecidableEq, Repr, Inhabited

/-- The two reference modes of the static frame form (R214, R215). -/
inductive StaticReference where
  | disabled | enabled
  deriving DecidableEq, Repr, Inhabited

/-- The three reference modes of the flex frame form (R215, R216). -/
inductive FlexReference where
  | flexModeEnabled | flexAlwaysOn | flexAlwaysOff
  deriving DecidableEq, Repr, Inhabited

/-- The five reference modes (R14), split by value into the two frame forms (R215). -/
inductive ReferenceMode where
  | fixed (r : StaticReference)
  | flex (r : FlexReference)
  deriving DecidableEq, Repr, Inhabited

/-- The nine command tags (R14); setLdac has a code and no typed operation (R222). -/
inductive Command where
  | writeInput | updateDac | writeInputUpdateAll | writeInputUpdateOne | setPowerMode
  | setClearCode | setLdac | softwareReset | internalReferenceControl
  deriving DecidableEq, Repr, Inhabited

end Sys2Proof
end

