-- ==== Sys2Proof/Config.lean ====
section
/-! DEFINITION. What is fixed for one block: its parameters (00_scope.md R7), the form of the configurable code
tables (40_frame_encoder.md R111 to R116), and the values the spec leaves open (93 I7, I8). -/

namespace Sys2Proof

/-- The configured resolution, one of 12, 14, 16 bits (R7, R28). -/
inductive Resolution where
  | r12 | r14 | r16
  deriving DecidableEq, Repr, Inhabited

/-- RES as a number of bits (R7). -/
def Resolution.bits : Resolution → Nat
  | .r12 => 12
  | .r14 => 14
  | .r16 => 16

/-- The transport's verdict on a SHIFT step (41 R146). -/
inductive Verdict where
  | go | wait | fail
  deriving DecidableEq, Repr, Inhabited

/-- The form of the parameter BUS_TIMING: clock polarity and phase, bit rate, select setup and hold (R7). R7 names the
five and gives them neither a type nor a unit; the types here are the model's choice (log 17). -/
structure BusTiming where
  polarity : Bool
  phase : Bool
  rate : Nat
  selectSetup : Nat
  selectHold : Nat
  deriving DecidableEq, Repr, Inhabited

/-- The configuration tables that give each name its wire code. R111 asks a model to take the command table as
configuration with the spec's values as defaults, and 93 (Part 2) asks the same of the other tables.
The defaults are `specCodes` in Decode.lean. -/
structure Codes where
  cmd : Command → Nibble
  addr : ChannelAddress → Nibble
  pm : PowerMode → BitVec 2
  cc : ClearCodeMode → BitVec 2
  en : StaticReference → BitVec 1
  fx : FlexReference → BitVec 2

namespace Config

/-- NCH (R7). -/
def nch : Nat := 8

/-- FRAME_BITS (R7). -/
def frameBits : Nat := 32

/-- FRAME_BYTES (R7). -/
def frameBytes : Nat := 4

/-- SEL_ACTIVE_LEVEL: the select line is active-low (R7, R24); `false` is the low level. -/
def selActiveLevel : Bool := false

/-- T_INTERFRAME_MIN: OPEN, and no rule of the model reads it (R7, R296). See log 17. -/
opaque tInterframeMin : Nat

/-- T_RESET_QUIET: OPEN, and no rule of the model reads it (R7, R295). See log 17. -/
opaque tResetQuiet : Nat

/-- T_XFER_TIMEOUT: OPEN, and no rule of the model reads it (R7, R305). See log 17. -/
opaque tXferTimeout : Nat

/-- BUS_TIMING: OPEN, and no rule of the model reads it (R7, R305; 92 D19, 93 I14). See log 17. -/
opaque busTiming : BusTiming

/-- FREE VALUE: the transport's verdict on a step for which no port sample is given (41 R146, 93 I7; log 2). -/
opaque freeVerdict : Nat → Verdict

/-- FREE VALUE: what S.frame holds after a block-reset step (70 R290, 93 I8; log 7). -/
opaque freeFrame : Nat → Frame

/-- FREE VALUE: what S.shreg holds after a block-reset step (70 R290, 93 I8; log 7). -/
opaque freeShreg : Nat → Byte

end Config

end Sys2Proof
end

