-- ==== Sys2Proof/Syntax.lean ====
section
/-! DEFINITION. The request record (30_encoding.md R88), one constructor per row of opcode_table.json.
Operands are as the host presents them, before any check: a number is a Nat and a channel operand may be Broadcast,
so that the ill-typed requests of R89 can be written down and are seen to be refused (log 12). -/

namespace Sys2Proof

/-- One host operation, the block's instruction (R2, R88). -/
inductive Instr where
  /-- writeInput(c, v): R180. -/
  | writeInput (c : ChannelAddress) (v : Nat)
  /-- writeAllChannels([v0, ..., v7]), channel A first: R185. -/
  | writeAllChannels (vs : List Nat)
  /-- update(a): R181. -/
  | update (a : ChannelAddress)
  /-- updateAllChannels(): R187. -/
  | updateAllChannels
  /-- writeAndUpdate(c, v): R182. -/
  | writeAndUpdate (c : ChannelAddress) (v : Nat)
  /-- writeInputUpdateAll(v): R183. -/
  | writeInputUpdateAll (v : Nat)
  /-- setPowerMode(a, p): R210. -/
  | setPowerMode (a : ChannelAddress) (p : PowerMode)
  /-- setClearCode(k): R212. -/
  | setClearCode (k : ClearCodeMode)
  /-- softwareReset(): R219. -/
  | softwareReset
  /-- setReferenceMode(r), static form: R214. -/
  | setReferenceModeStatic (r : StaticReference)
  /-- setReferenceMode(r), flex form: R216. -/
  | setReferenceModeFlex (r : FlexReference)
  /-- sendRawFrame(c, a, d, f): R240. -/
  | sendRawFrame (cmd addr data feat : Nat)
  /-- sendRawBytes(b0, b1, b2, b3), b0 sent first: R245. -/
  | sendRawBytes (b0 b1 b2 b3 : Nat)
  deriving DecidableEq, Repr, Inhabited

/-- setReferenceMode(r): one operation of the host whose value selects one of two frame forms (R215). -/
def Instr.setReferenceMode : ReferenceMode → Instr
  | .fixed r => .setReferenceModeStatic r
  | .flex r => .setReferenceModeFlex r

end Sys2Proof
end

