-- ==== Sys2Proof/WellFormed.lean ====
section
/-! DEFINITION. Well-formedness of a request (30_encoding.md R89). -/

namespace Sys2Proof

/-- Why a request is not well formed; one constructor per kind of ill-typed operand of R89. -/
inductive IllTyped where
  /-- Broadcast given where the operation takes a Channel. -/
  | broadcastOperand
  /-- A sample value wider than 16 bits. -/
  | valueTooWide
  /-- A writeAllChannels list whose length is not 8. -/
  | wrongListLength
  /-- A raw nibble, word or byte operand wider than its field. -/
  | rawOperandTooWide
  deriving DecidableEq, Repr

/-- An operand that must be a Channel A..H (R89). -/
def checkChannel : ChannelAddress → Option IllTyped
  | .chan _ => none
  | .broadcast => some .broadcastOperand

/-- A sample value of at most 16 bits (R89). -/
def checkSample (v : Nat) : Option IllTyped :=
  if v < 2 ^ 16 then none else some .valueTooWide

/-- The value list of writeAllChannels: exactly 8 values of at most 16 bits (R89, R185). -/
def checkSamples (vs : List Nat) : Option IllTyped :=
  if vs.length = Config.nch then
    if vs.all (· < 2 ^ 16) then none else some .valueTooWide
  else some .wrongListLength

/-- A raw operand that must fit a field of `w` bits (R89). -/
def checkRaw (w v : Nat) : Option IllTyped :=
  if v < 2 ^ w then none else some .rawOperandTooWide

/-- The first reason for which a request is not well formed, if there is one (R89). -/
def Instr.illTyped : Instr → Option IllTyped
  | .writeInput c v => (checkChannel c).or (checkSample v)
  | .writeAllChannels vs => checkSamples vs
  | .update _ => none
  | .updateAllChannels => none
  | .writeAndUpdate c v => (checkChannel c).or (checkSample v)
  | .writeInputUpdateAll v => checkSample v
  | .setPowerMode _ _ => none
  | .setClearCode _ => none
  | .softwareReset => none
  | .setReferenceModeStatic _ => none
  | .setReferenceModeFlex _ => none
  | .sendRawFrame c a d f => (((checkRaw 4 c).or (checkRaw 4 a)).or (checkRaw 16 d)).or (checkRaw 4 f)
  | .sendRawBytes b0 b1 b2 b3 => (((checkRaw 8 b0).or (checkRaw 8 b1)).or (checkRaw 8 b2)).or (checkRaw 8 b3)

/-- A request is well formed when its operands have the types of R88 (R89). -/
abbrev Instr.WellFormed (i : Instr) : Prop := i.illTyped = none

end Sys2Proof
end

