-- ==== Sys2Proof/Decode.lean ====
section
/-! DEFINITION. Decoding a frame (30_encoding.md R92) and, after it, encoding a request
(40_frame_encoder.md R110 to R128): the frame packer, the pure half of the block. -/

namespace Sys2Proof

/-! ### Fields of a frame (R80, R81) -/

/-- The prefix nibble, frame bits 31..28 (R80). -/
def topField (f : Frame) : Nibble := f.extractLsb' 28 4

/-- The command nibble, frame bits 27..24 (R80). -/
def cmdField (f : Frame) : Nibble := f.extractLsb' 24 4

/-- The address nibble, frame bits 23..20 (R80). -/
def addrField (f : Frame) : Nibble := f.extractLsb' 20 4

/-- The data field, frame bits 19..4 (R80). -/
def dataField (f : Frame) : Sample := f.extractLsb' 4 16

/-- The feature nibble, frame bits 3..0 (R80). -/
def featField (f : Frame) : Nibble := f.extractLsb' 0 4

/-- Byte j of a frame, j = 0..3, byte 0 the most significant: `frame[31 - 8j : 24 - 8j]` (R60). -/
def byteOf (f : Frame) (j : Nat) : Byte := f.extractLsb' (24 - 8 * j) 8

/-- The byte view of a frame, in the order the bytes are sent (R125). -/
def bytesOf (f : Frame) : List Byte := [byteOf f 0, byteOf f 1, byteOf f 2, byteOf f 3]

/-- The frame of four bytes, the first one sent first (R62, R245). -/
def frameOfBytes (b0 b1 b2 b3 : Byte) : Frame := b0 ++ b1 ++ b2 ++ b3

/-! ### The decoder (R92) -/

/-- The rows of opcode_table.json. -/
inductive OpRow where
  | writeInput | writeAllChannels | update | updateAllChannels | writeAndUpdate | writeInputUpdateAll
  | setPowerMode | setClearCode | softwareReset | setReferenceModeStatic | setReferenceModeFlex
  | sendRawFrame | sendRawBytes
  deriving DecidableEq, Repr

/-- A field of a row with a value list: its lowest bit, its width, the values it may take. -/
structure FieldList where
  lo : Nat
  width : Nat
  values : List Nat

/-- One row of opcode_table.json: a frame belongs to it when `(frame & mask) = pattern` and every field with a
value list holds one of its values (R92). -/
structure Row where
  op : OpRow
  mask : Frame
  pattern : Frame
  fields : List FieldList

/-- The address field with the codes of channels A..H (R112). -/
def channelCodes : FieldList := ⟨20, 4, [0, 1, 2, 3, 4, 5, 6, 7]⟩

/-- The address field with the codes of every ChannelAddress (R112). -/
def addressCodes : FieldList := ⟨20, 4, [0, 1, 2, 3, 4, 5, 6, 7, 15]⟩

/-- The rows in file order: the typed ones first, the raw ones last (R92). -/
def opcodeRows : List Row :=
  [⟨.writeInput, 0xFF80000F, 0x00000000, [channelCodes]⟩,
   ⟨.writeAllChannels, 0xFF80000F, 0x00000000, [channelCodes]⟩,
   ⟨.update, 0xFF0FFFFF, 0x01000000, [addressCodes]⟩,
   ⟨.updateAllChannels, 0xFFFFFFFF, 0x01F00000, []⟩,
   ⟨.writeAndUpdate, 0xFF80000F, 0x03000000, [channelCodes]⟩,
   ⟨.writeInputUpdateAll, 0xFFF0000F, 0x02F00000, []⟩,
   ⟨.setPowerMode, 0xFF0FFCFF, 0x04000000, [addressCodes, ⟨8, 2, [0, 1, 2, 3]⟩]⟩,
   ⟨.setClearCode, 0xFFFFFFF3, 0x05000000, [⟨2, 2, [0, 1, 2, 3]⟩]⟩,
   ⟨.softwareReset, 0xFFFFFFFF, 0x07000000, []⟩,
   ⟨.setReferenceModeStatic, 0xFFFFFFFE, 0x08000000, [⟨0, 1, [0, 1]⟩]⟩,
   ⟨.setReferenceModeFlex, 0xFFF9FFFF, 0x08180000, [⟨17, 2, [0, 1, 2]⟩]⟩,
   ⟨.sendRawFrame, 0xF0000000, 0x00000000, []⟩,
   ⟨.sendRawBytes, 0x00000000, 0x00000000, []⟩]

/-- Whether a field holds one of the values its row lists. -/
def FieldList.allows (l : FieldList) (f : Frame) : Bool :=
  l.values.contains (f.extractLsb' l.lo l.width).toNat

/-- Whether a frame belongs to a row (R92). -/
def Row.accepts (r : Row) (f : Frame) : Bool :=
  f &&& r.mask == r.pattern && r.fields.all (·.allows f)

/-- The first row of the table a frame belongs to; the last row takes every frame (R92). -/
def firstRow (f : Frame) : OpRow :=
  ((opcodeRows.find? (·.accepts f)).map (·.op)).getD .sendRawBytes

/-- The ChannelAddress an address code names (R112); read only for codes the row lists. -/
def addressOf (code : Nibble) : ChannelAddress :=
  match code.toNat with
  | 0 => .chan .A
  | 1 => .chan .B
  | 2 => .chan .C
  | 3 => .chan .D
  | 4 => .chan .E
  | 5 => .chan .F
  | 6 => .chan .G
  | 7 => .chan .H
  | _ => .broadcast

/-- The PowerMode a 2-bit code names (R113). -/
def powerModeOf (code : BitVec 2) : PowerMode :=
  match code.toNat with
  | 0 => .powerUp
  | 1 => .powerDownTo1k
  | 2 => .powerDownTo100k
  | _ => .powerDownHiZ

/-- The ClearCodeMode a 2-bit code names (R114). -/
def clearCodeOf (code : BitVec 2) : ClearCodeMode :=
  match code.toNat with
  | 0 => .zeroScale
  | 1 => .midScale
  | 2 => .fullScale
  | _ => .noOperation

/-- The static reference mode an enable flag names (R115). -/
def staticOf (flag : BitVec 1) : StaticReference :=
  match flag.toNat with
  | 0 => .disabled
  | _ => .enabled

/-- The flex submode a 2-bit code names (R116); 0b11 is in no typed row and is not read here. -/
def flexOf (code : BitVec 2) : FlexReference :=
  match code.toNat with
  | 0 => .flexModeEnabled
  | 1 => .flexAlwaysOn
  | _ => .flexAlwaysOff

/-- The operation a frame of a row stands for. One frame cannot be told from a frame of writeAllChannels, so that
row reads as the writeInput it equals; the rows writeAllChannels and updateAllChannels are never a frame's first
row (R92). -/
def buildInstr (op : OpRow) (f : Frame) : Instr :=
  match op with
  | .writeInput => .writeInput (addressOf (addrField f)) (dataField f).toNat
  | .writeAllChannels => .writeInput (addressOf (addrField f)) (dataField f).toNat
  | .update => .update (addressOf (addrField f))
  | .updateAllChannels => .updateAllChannels
  | .writeAndUpdate => .writeAndUpdate (addressOf (addrField f)) (dataField f).toNat
  | .writeInputUpdateAll => .writeInputUpdateAll (dataField f).toNat
  | .setPowerMode => .setPowerMode (addressOf (addrField f)) (powerModeOf (f.extractLsb' 8 2))
  | .setClearCode => .setClearCode (clearCodeOf (f.extractLsb' 2 2))
  | .softwareReset => .softwareReset
  | .setReferenceModeStatic => .setReferenceModeStatic (staticOf (f.extractLsb' 0 1))
  | .setReferenceModeFlex => .setReferenceModeFlex (flexOf (f.extractLsb' 17 2))
  | .sendRawFrame =>
      .sendRawFrame (cmdField f).toNat (addrField f).toNat (dataField f).toNat (featField f).toNat
  | .sendRawBytes =>
      .sendRawBytes (byteOf f 0).toNat (byteOf f 1).toNat (byteOf f 2).toNat (byteOf f 3).toNat

/-- The operation a frame decodes to: total on all 32-bit frames (R92). -/
def decode (f : Frame) : Instr := buildInstr (firstRow f) f

/-- Why a sequence of bytes holds no frame. -/
inductive DecodeError where
  /-- Fewer than four bytes are left: there is no 3-byte frame (R82; 93 I6). -/
  | shortFrame
  deriving DecidableEq, Repr

/-- Decode the first frame of a sequence of bytes in wire order and return the bytes after it; a frame always takes
exactly four bytes (R60, R82). -/
def decodeBytes : List Byte → Except DecodeError (Instr × List Byte)
  | b0 :: b1 :: b2 :: b3 :: rest => .ok (decode (frameOfBytes b0 b1 b2 b3), rest)
  | _ => .error .shortFrame

/-- The request a list of frames stands for: one frame by R92, and eight writeInput frames of the channels A..H in
order as writeAllChannels (R185, the F32x8 row of the table). -/
def decodeFrames (fs : List Frame) : Option Instr :=
  match fs with
  | [f] => some (decode f)
  | fs =>
    let vs := fs.map fun f => (dataField f).toNat
    if fs.length = Config.nch ∧
        fs.map decode = List.zipWith (fun c v => .writeInput (.chan c) v) Channel.all vs then
      some (.writeAllChannels vs)
    else none

/-- The instruction read from `nbits` bits `w` of the opcode table: 32-bit words, the first in the least significant
bits. A row has one word (format F32) or eight (F32x8); a width below 32 is one word with zeros above (log 13). -/
def decodeTableWord (nbits w : Nat) : Option Instr :=
  decodeFrames <|
    (List.range (max 1 ((nbits + 31) / 32))).map fun k => BitVec.ofNat 32 ((w % 2 ^ nbits) >>> (32 * k))

/-! ### The code tables (R111 to R116) -/

/-- CMD_CODE, the command codes (R111; all but writeInputUpdateOne rest on the spec's decision D3, log 15). -/
def cmdCode : Command → Nibble
  | .writeInput => 0b0000
  | .updateDac => 0b0001
  | .writeInputUpdateAll => 0b0010
  | .writeInputUpdateOne => 0b0011
  | .setPowerMode => 0b0100
  | .setClearCode => 0b0101
  | .setLdac => 0b0110
  | .softwareReset => 0b0111
  | .internalReferenceControl => 0b1000

/-- ADDR_CODE, the channel address codes (R112; all but A rest on the spec's decision D4, log 15). -/
def addrCode : ChannelAddress → Nibble
  | .chan .A => 0b0000
  | .chan .B => 0b0001
  | .chan .C => 0b0010
  | .chan .D => 0b0011
  | .chan .E => 0b0100
  | .chan .F => 0b0101
  | .chan .G => 0b0110
  | .chan .H => 0b0111
  | .broadcast => 0b1111

/-- pm, the power mode codes (R113). -/
def pmCode : PowerMode → BitVec 2
  | .powerUp => 0b00
  | .powerDownTo1k => 0b01
  | .powerDownTo100k => 0b10
  | .powerDownHiZ => 0b11

/-- cc, the clear codes (R114). -/
def ccCode : ClearCodeMode → BitVec 2
  | .zeroScale => 0b00
  | .midScale => 0b01
  | .fullScale => 0b10
  | .noOperation => 0b11

/-- en, the static enable flag (R115). -/
def enCode : StaticReference → BitVec 1
  | .disabled => 0b0
  | .enabled => 0b1

/-- fx, the flex submode codes (R116). -/
def fxCode : FlexReference → BitVec 2
  | .flexModeEnabled => 0b00
  | .flexAlwaysOn => 0b01
  | .flexAlwaysOff => 0b10

/-- The spec's default values of the configuration tables (R111 to R116). -/
def specCodes : Codes := ⟨cmdCode, addrCode, pmCode, ccCode, enCode, fxCode⟩

/-! ### Packing (R110) and the resolution mask (R118) -/

/-- The packing function: prefix 0000, command, address, data, feature (R110). -/
def pack (cmd addr : Nibble) (data : Sample) (feat : Nibble) : Frame :=
  0b0000#4 ++ cmd ++ addr ++ data ++ feat

/-- mask(RES): ones in the top RES bits (R118). -/
def resMask (res : Resolution) : Sample := 0xFFFF#16 <<< (16 - res.bits)

/-- m(v): the sample with its low 16 - RES bits forced to zero, silently (R118, R119). -/
def maskSample (res : Resolution) (v : Sample) : Sample := v &&& resMask res

/-! ### The frame of each operation (R84, R124). Each takes the code tables as an argument. -/

/-- The frame of writeInput (R180). -/
def writeInputFrame (k : Codes) (res : Resolution) (c : ChannelAddress) (v : Nat) : Frame :=
  pack (k.cmd .writeInput) (k.addr c) (maskSample res (BitVec.ofNat 16 v)) 0b0000

/-- The frames of writeAllChannels, channels A..H in order (R185). -/
def writeAllFrames (k : Codes) (res : Resolution) (vs : List Nat) : List Frame :=
  List.zipWith (fun c v => writeInputFrame k res (.chan c) v) Channel.all vs

/-- The frame of update (R181). -/
def updateFrame (k : Codes) (a : ChannelAddress) : Frame :=
  pack (k.cmd .updateDac) (k.addr a) 0x0000 0b0000

/-- The frame of writeAndUpdate (R182). -/
def writeAndUpdateFrame (k : Codes) (res : Resolution) (c : ChannelAddress) (v : Nat) : Frame :=
  pack (k.cmd .writeInputUpdateOne) (k.addr c) (maskSample res (BitVec.ofNat 16 v)) 0b0000

/-- The frame of writeInputUpdateAll, its address fixed to Broadcast (R183). -/
def writeInputUpdateAllFrame (k : Codes) (res : Resolution) (v : Nat) : Frame :=
  pack (k.cmd .writeInputUpdateAll) (k.addr .broadcast) (maskSample res (BitVec.ofNat 16 v)) 0b0000

/-- The frame of setPowerMode: the mode at frame bits 9..8 (R210; 90 C1). -/
def setPowerModeFrame (k : Codes) (a : ChannelAddress) (p : PowerMode) : Frame :=
  pack (k.cmd .setPowerMode) (k.addr a) ((k.pm p).zeroExtend 16 <<< 4) 0b0000

/-- The frame of setClearCode: the code at frame bits 3..2 (R212). -/
def setClearCodeFrame (k : Codes) (m : ClearCodeMode) : Frame :=
  pack (k.cmd .setClearCode) 0b0000 0x0000 (k.cc m ++ 0b00#2)

/-- The frame of softwareReset (R219). -/
def softwareResetFrame (k : Codes) : Frame :=
  pack (k.cmd .softwareReset) 0b0000 0x0000 0b0000

/-- The frame of the static setReferenceMode: the enable flag at frame bit 0 (R214). -/
def staticReferenceFrame (k : Codes) (r : StaticReference) : Frame :=
  pack (k.cmd .internalReferenceControl) 0b0000 0x0000 (0b000#3 ++ k.en r)

/-- The frame of the flex setReferenceMode: frame bit 19 set, the submode at bits 18..17 (R216, R117). -/
def flexReferenceFrame (k : Codes) (r : FlexReference) : Frame :=
  pack (k.cmd .internalReferenceControl) 0b0001 (0b1#1 ++ k.fx r ++ 0#13) 0b0000

/-- The frame of sendRawFrame: no resolution mask, no field check (R240). -/
def rawFrame (cmd addr data feat : Nat) : Frame :=
  pack (BitVec.ofNat 4 cmd) (BitVec.ofNat 4 addr) (BitVec.ofNat 16 data) (BitVec.ofNat 4 feat)

/-- The frame of sendRawBytes: no field forced, the prefix nibble among them (R245). -/
def rawBytesFrame (b0 b1 b2 b3 : Nat) : Frame :=
  frameOfBytes (BitVec.ofNat 8 b0) (BitVec.ofNat 8 b1) (BitVec.ofNat 8 b2) (BitVec.ofNat 8 b3)

/-! ### Dispatch (R124) -/

/-- The frames of a well-formed request under given code tables (R124). -/
def encodeWith (k : Codes) (res : Resolution) : Instr → List Frame
  | .writeInput c v => [writeInputFrame k res c v]
  | .writeAllChannels vs => writeAllFrames k res vs
  | .update a => [updateFrame k a]
  | .updateAllChannels => [updateFrame k .broadcast]
  | .writeAndUpdate c v => [writeAndUpdateFrame k res c v]
  | .writeInputUpdateAll v => [writeInputUpdateAllFrame k res v]
  | .setPowerMode a p => [setPowerModeFrame k a p]
  | .setClearCode m => [setClearCodeFrame k m]
  | .softwareReset => [softwareResetFrame k]
  | .setReferenceModeStatic r => [staticReferenceFrame k r]
  | .setReferenceModeFlex r => [flexReferenceFrame k r]
  | .sendRawFrame c a d f => [rawFrame c a d f]
  | .sendRawBytes b0 b1 b2 b3 => [rawBytesFrame b0 b1 b2 b3]

/-- encode(req, RES) with the spec's code tables (R124). Defined on every request; it is used only for well-formed
ones, for which it gives one frame or eight (R122). -/
def encode (res : Resolution) (i : Instr) : List Frame := encodeWith specCodes res i

/-- The four commands the four-argument form takes (R128). -/
inductive FieldsCommand where
  | writeInput | updateDac | writeInputUpdateOne | writeInputUpdateAll
  deriving DecidableEq, Repr

/-- The command tag of each (R14, R128). -/
def fieldsCommandTag : FieldsCommand → Command
  | .writeInput => .writeInput
  | .updateDac => .updateDac
  | .writeInputUpdateOne => .writeInputUpdateOne
  | .writeInputUpdateAll => .writeInputUpdateAll

/-- The four-argument form of the source's test properties, given for four commands only (R128). -/
def encodeFields (res : Resolution) (cmd : FieldsCommand) (a : ChannelAddress) (v : Sample) (feat : Nibble) :
    List Byte :=
  bytesOf (pack (cmdCode (fieldsCommandTag cmd)) (addrCode a) (maskSample res v) feat)

/-! ### Resolution of a construction (R15, R28) -/

/-- The configured resolution a number of bits names; any other number is refused (R15, R28). -/
def resolutionOfBits : Nat → Option Resolution
  | 12 => some .r12
  | 14 => some .r14
  | 16 => some .r16
  | _ => none

end Sys2Proof
end

