-- ==== Sys2Proof/Machine/State.lean ====
section
/-! DEFINITION. The state of the block (10_state.md R22), the port samples and wire events around it
(R33, R34), the reasons a step can stop, and the state after reset (70 R290, R292). -/

namespace Sys2Proof.Machine

/-- The frame-select state machine's state (R23). -/
inductive Fsm where
  | idle | select | shift | release
  deriving DecidableEq, Repr, Inhabited

/-- The outcome of the last completed request (R14, R29). -/
inductive Result where
  | none | ok | transportFailure
  deriving DecidableEq, Repr, Inhabited

/-- A wire event of the trace (R33). -/
inductive Event where
  /-- S.sel goes false to true, the line high to low. -/
  | selAssert
  /-- S.sel goes true to false, the line low to high. -/
  | selDeassert
  /-- One bit on the data line while the select line is asserted. -/
  | bit (b : Bool)
  /-- The request ends with this result (OK or TRANSPORT_FAILURE). -/
  | done (r : Result)
  deriving DecidableEq, Repr

/-- The input ports during one step (R34): block reset, the request (`none`: req_valid does not hold) and the
transport's verdict. -/
structure PortSample where
  rst : Bool
  req : Option Instr
  verdict : Verdict
  deriving DecidableEq, Repr

/-- Why the machine stops with a fault. -/
inductive Fault where
  /-- A SHIFT step with GO or FAIL in a state whose `pos` exceeds 32: R22 gives `pos` the range 0..32, so no rule
  is enabled. Raised by `blockStep` only; no run reaches it (log 16). SAFE: the machine stops. -/
  | posOutOfRange
  deriving DecidableEq, Repr

/-- Why an input is given no meaning. -/
inductive Refusal where
  /-- An instruction whose arm in exec has no meaning yet. SAFE: nothing is proved about it. -/
  | notModelled (mnemonic : String)
  /-- A request that is not well formed, presented in IDLE (R15, R89). Raised by `acceptRequest`.
  SAFE: the spec gives such a request no step. -/
  | illTyped (why : IllTyped)
  /-- A block constructed with a resolution outside 12, 14, 16 (R15, R28). Raised by `construct`.
  SAFE: the spec gives such a block no step. -/
  | unsupportedResolution (bits : Nat)
  deriving DecidableEq, Repr

/-- The block's state record (R22) with its configured resolution (R28), and the model's own three fields: the
coming port samples, the counter of the free values, and the trace observed so far. -/
structure State where
  /-- RES: fixed at construction, changed by no step (R28; log 8). -/
  res : Resolution
  /-- S.fsm (R23). -/
  fsm : Fsm
  /-- S.sel: the select line is asserted (R24). -/
  sel : Bool
  /-- S.frame: the frame being shifted (R25). -/
  frame : Frame
  /-- S.shreg: the byte-shift register (R26). -/
  shreg : Byte
  /-- S.pos: the bits of the frame already shifted out (R26). -/
  pos : Nat
  /-- S.queue: the frames still to send for the request in progress (R27). -/
  queue : List Frame
  /-- S.failed: the current frame ended by transport failure (R29). -/
  failed : Bool
  /-- S.result: the outcome of the last completed request (R29). -/
  result : Result
  /-- The input ports of the coming steps, soonest first; the model's own (log 1). -/
  inputs : List PortSample
  /-- The counter the free values are applied to; the model's own (log 3). -/
  draws : Nat
  /-- The wire events so far, oldest first; the model's own (R33, log 4). -/
  trace : List Event
  deriving DecidableEq, Repr

/-- The machine right after reset (R22, R290, R292). `res`, `frame`, `shreg` and the model's own fields have the values
of log 8, 5, 6, 1, 3 and 4. -/
def State.reset : State where
  res := .r16
  fsm := .idle
  sel := false
  frame := 0
  shreg := 0
  pos := 0
  queue := []
  failed := false
  result := .none
  inputs := []
  draws := 0
  trace := []

end Sys2Proof.Machine
end

