-- ==== Sys2Proof/Machine/Flags.lean ====
section
/-! DEFINITION. The block's status and its output ports (10_state.md R24, R29, R30, R34; 60_exceptions.md R261).
The block has no arithmetic flags and no condition codes (R29). -/

namespace Sys2Proof.Machine

/-- req_ready: a request can be accepted (R30). -/
def State.reqReady (s : State) : Bool := s.fsm == .idle

/-- The block is busy (R30). -/
def State.busy (s : State) : Bool := !s.reqReady

/-- The level of the select pin SYNC_n: active-low, high while deasserted (R24). -/
def State.syncN (s : State) : Bool :=
  if s.sel then Config.selActiveLevel else !Config.selActiveLevel

/-- The result a request ends with (R152). -/
def endResult (failed : Bool) : Result :=
  if failed then .transportFailure else .ok

/-- The code of a result on the result port; 0b11 is never driven (R261). -/
def resultCode : Result → BitVec 2
  | .none => 0b00
  | .ok => 0b01
  | .transportFailure => 0b10

/-- The result port (R34, R261). -/
def State.resultPort (s : State) : BitVec 2 := resultCode s.result

/-- The events a step emitted: those of the trace after it that are not in the trace before it (R33). -/
def newEvents (before after : State) : List Event := after.trace.drop before.trace.length

/-- Whether an event is the end of a request. -/
def Event.isDone : Event → Bool
  | .done _ => true
  | _ => false

/-- The bit an event puts on the data line, if it does. -/
def Event.bit? : Event → Option Bool
  | .bit b => some b
  | _ => none

/-- done: the one-step pulse of the step that ends a request (R34). -/
def donePulse (before after : State) : Bool := (newEvents before after).any Event.isDone

/-- DIN: the bit a step put on the data line, if it did (R34); SCLK has one period on exactly those steps (R145). -/
def dinBit (before after : State) : Option Bool := (newEvents before after).findSome? Event.bit?

end Sys2Proof.Machine
end

