-- ==== Sys2Proof/Machine/Operands.lean ====
section
/-! DEFINITION. The operand forms of a request (30_encoding.md R85): how an operand the host presents is checked and
what it is read as. A request with more than one ill-typed operand is refused for the first in the operation's order. -/

namespace Sys2Proof.Machine

/-- A check of one operand and then of the next (R89). -/
def bothChecks (first second : Option IllTyped) : Option IllTyped := first.or second

/-- A Channel operand and a sample operand, as writeInput and writeAndUpdate take them (R180, R182). -/
def checkChannelSample (c : ChannelAddress) (v : Nat) : Option IllTyped :=
  bothChecks (checkChannel c) (checkSample v)

/-- The four raw operands of sendRawFrame: two nibbles, a 16-bit word, a nibble (R240). -/
def checkRawFields (cmd addr data feat : Nat) : Option IllTyped :=
  bothChecks (bothChecks (bothChecks (checkRaw 4 cmd) (checkRaw 4 addr)) (checkRaw 16 data)) (checkRaw 4 feat)

/-- The four byte operands of sendRawBytes (R245). -/
def checkRawBytes (b0 b1 b2 b3 : Nat) : Option IllTyped :=
  bothChecks (bothChecks (bothChecks (checkRaw 8 b0) (checkRaw 8 b1)) (checkRaw 8 b2)) (checkRaw 8 b3)

end Sys2Proof.Machine
end

