-- ==== Sys2Proof/Machine/Ops.lean ====
section
/-! DEFINITION. The named operations of the block: reading the ports, accepting a request (41 R140), the steps of the
frame-select state machine (R142 to R152), raising the one exception and returning from it (R150, R152; 60 R266,
R267), and block reset (70 R290). -/

namespace Sys2Proof.Machine

/-! ### The ports and the trace -/

/-- The input ports of this step: the next sample, and where none is given no reset, no request and a free verdict
(R34, R146; log 1, log 2). -/
def State.ports (s : State) : PortSample :=
  match s.inputs with
  | [] => ⟨false, none, Config.freeVerdict s.draws⟩
  | p :: _ => p

/-- The ports have been sampled: the next step reads the next sample (log 1, log 3). -/
def State.sampled (s : State) : State := { s with inputs := s.inputs.tail, draws := s.draws + 1 }

/-- Emit(e): append a wire event to the trace (R13, R33). -/
def State.emit (e : Event) (s : State) : State := { s with trace := s.trace ++ [e] }

/-! ### Acceptance (R140) -/

/-- Latch the frames of an accepted request (R140, R75). -/
def State.latch (fs : List Frame) (s : State) : State :=
  { s with
    frame := fs.headD 0
    queue := fs.tail
    pos := 0
    failed := false
    result := .none
    fsm := .select }

/-- Present a request with its check and its frames: accepted in IDLE if well formed (R140), refused in IDLE if not
(R15, R89), and left waiting while the block is busy (R30; log 11). -/
def acceptRequest (check : Option IllTyped) (fs : List Frame) (s : State) : Host.Outcome State Fault Refusal :=
  if s.fsm = .idle then
    match check with
    | none => .next (s.latch fs)
    | some why => .refused (.illTyped why)
  else .next s

/-! ### Select (R142) -/

/-- Assert the select line (R142). -/
def State.selectLine (s : State) : State :=
  { s.emit .selAssert with sel := true, fsm := .shift }

/-! ### Serializer (R145) -/

/-- The byte register a shift step uses: the frame's next byte at a byte boundary, else what is left of the byte in
progress (R145, R26). -/
def State.shiftByte (s : State) : Byte :=
  if s.pos % 8 = 0 then s.frame.extractLsb' (24 - s.pos) 8 else s.shreg

/-- Shift one bit onto the wire (R145). -/
def State.shiftBit (s : State) : State :=
  { s.emit (.bit (s.shiftByte.getLsbD 7)) with shreg := s.shiftByte <<< 1, pos := s.pos + 1 }

/-- All 32 bits are out and the transport confirms it (R149). -/
def State.completeFrame (s : State) : State := { s with fsm := .release }

/-! ### The exception (R150, R260, R266) -/

/-- Raise TransportFailure: the frame has failed and the select line is to be released. It saves nothing and changes
no mode (R150, R266). -/
def State.raiseTransportFailure (s : State) : State := { s with failed := true, fsm := .release }

/-! ### Release (R151, R152) -/

/-- Deassert the select line and load the next frame of the request (R151). -/
def State.releaseNext (s : State) : State :=
  { s.emit .selDeassert with
    sel := false
    frame := s.queue.headD 0
    queue := s.queue.tail
    pos := 0
    fsm := .select }

/-- Deassert the select line and end the request with its result, dropping the frames not sent; after a failure this is
also the whole of the return from it: IDLE, with nothing sticky but the result (R152, R266, R267). -/
def State.releaseEnd (s : State) : State :=
  { (s.emit .selDeassert).emit (.done (endResult s.failed)) with
    sel := false
    result := endResult s.failed
    queue := []
    failed := false
    fsm := .idle }

/-- The release step: the next frame after a completed one, else the end of the request (R151, R152). -/
def State.releaseLine (s : State) : State :=
  if s.failed = false ∧ s.queue ≠ [] then s.releaseNext else s.releaseEnd

/-! ### Block reset (R290) -/

/-- The select line's event at a block reset: a transaction in progress is cut off (R290, R291). -/
def State.cutOff (s : State) : State := if s.sel then s.emit .selDeassert else s

/-- Block reset: no Done for a request cut off; S.frame and S.shreg hold free values; RES is unchanged
(R290; log 7). -/
def State.blockReset (s : State) : State :=
  { s.cutOff with
    fsm := .idle
    sel := false
    pos := 0
    queue := []
    failed := false
    result := .none
    frame := Config.freeFrame s.draws
    shreg := Config.freeShreg s.draws }

/-! ### One step of the state machine -/

/-- A SHIFT step under a verdict (R145, R146, R149, R150). -/
def shiftStep (v : Verdict) (s : State) : Host.Outcome State Fault Refusal :=
  match v with
  | .wait => .next s
  | .go =>
    if s.pos < 32 then .next s.shiftBit
    else if s.pos = 32 then .next s.completeFrame
    else .fault .posOutOfRange
  | .fail => if s.pos ≤ 32 then .next s.raiseTransportFailure else .fault .posOutOfRange

/-- The step of the state machine when no request is accepted and no reset is asserted; in IDLE it changes nothing
(R160). -/
def blockStep (v : Verdict) (s : State) : Host.Outcome State Fault Refusal :=
  match s.fsm with
  | .idle => .next s
  | .select => .next s.selectLine
  | .shift => shiftStep v s
  | .release => .next s.releaseLine

/-- The request the block takes from the port in this step: what is presented while it is ready (R30, R34). -/
def State.requestTaken (s : State) (p : PortSample) : Option Instr :=
  if s.fsm = .idle then p.req else none

end Sys2Proof.Machine
end

