-- ==== Sys2Proof/Machine/Configuration.lean ====
section
/-! DEFINITION. The configuration and control operations (43_configuration.md R210 to R222). None reads RES (R120). -/

namespace Sys2Proof.Machine

/-- setPowerMode(a, p) (R210). -/
def execSetPowerMode (a : ChannelAddress) (p : PowerMode) (s : State) : Host.Outcome State Fault Refusal :=
  acceptRequest none [setPowerModeFrame specCodes a p] s

/-- setClearCode(k) (R212). -/
def execSetClearCode (k : ClearCodeMode) (s : State) : Host.Outcome State Fault Refusal :=
  acceptRequest none [setClearCodeFrame specCodes k] s

/-- softwareReset(): a device command; it resets nothing of the block (R219, R221). -/
def execSoftwareReset (s : State) : Host.Outcome State Fault Refusal :=
  acceptRequest none [softwareResetFrame specCodes] s

/-- setReferenceMode(r), static form (R214). -/
def execSetReferenceModeStatic (r : StaticReference) (s : State) : Host.Outcome State Fault Refusal :=
  acceptRequest none [staticReferenceFrame specCodes r] s

/-- setReferenceMode(r), flex form; the flex precondition is not checked (R216, R217). -/
def execSetReferenceModeFlex (r : FlexReference) (s : State) : Host.Outcome State Fault Refusal :=
  acceptRequest none [flexReferenceFrame specCodes r] s

end Sys2Proof.Machine
end

