-- ==== Sys2Proof/Machine/Raw.lean ====
section
/-! DEFINITION. The raw operations (44_raw.md R240 to R246): no mask, no validation beyond the operands' widths. -/

namespace Sys2Proof.Machine

/-- sendRawFrame(c, a, d, f) (R240); also the route of a SetLdac frame (R222). -/
def execSendRawFrame (cmd addr data feat : Nat) (s : State) : Host.Outcome State Fault Refusal :=
  acceptRequest (checkRawFields cmd addr data feat) [rawFrame cmd addr data feat] s

/-- sendRawBytes(b0, b1, b2, b3), b0 sent first (R245). -/
def execSendRawBytes (b0 b1 b2 b3 : Nat) (s : State) : Host.Outcome State Fault Refusal :=
  acceptRequest (checkRawBytes b0 b1 b2 b3) [rawBytesFrame b0 b1 b2 b3] s

end Sys2Proof.Machine
end

