-- ==== Sys2Proof/Machine/WriteUpdate.lean ====
section
/-! DEFINITION. The write and update operations (42_write_update.md R180 to R188). Each meaning is what the block does
with the request when it is presented: R140 with the operation's frames. The steps of `step` send them (log 10). -/

namespace Sys2Proof.Machine

/-- writeInput(c, v) (R180). -/
def execWriteInput (c : ChannelAddress) (v : Nat) (s : State) : Host.Outcome State Fault Refusal :=
  acceptRequest (checkChannelSample c v) [writeInputFrame specCodes s.res c v] s

/-- writeAllChannels([v0, ..., v7]): channel A's frame first, B..H queued (R185, R186). -/
def execWriteAllChannels (vs : List Nat) (s : State) : Host.Outcome State Fault Refusal :=
  acceptRequest (checkSamples vs) (writeAllFrames specCodes s.res vs) s

/-- update(a) (R181). -/
def execUpdate (a : ChannelAddress) (s : State) : Host.Outcome State Fault Refusal :=
  acceptRequest none [updateFrame specCodes a] s

/-- updateAllChannels(): the frame of update(Broadcast) (R187, R91). -/
def execUpdateAllChannels (s : State) : Host.Outcome State Fault Refusal :=
  acceptRequest none [updateFrame specCodes .broadcast] s

/-- writeAndUpdate(c, v) (R182). -/
def execWriteAndUpdate (c : ChannelAddress) (v : Nat) (s : State) : Host.Outcome State Fault Refusal :=
  acceptRequest (checkChannelSample c v) [writeAndUpdateFrame specCodes s.res c v] s

/-- writeInputUpdateAll(v) (R183). -/
def execWriteInputUpdateAll (v : Nat) (s : State) : Host.Outcome State Fault Refusal :=
  acceptRequest (checkSample v) [writeInputUpdateAllFrame specCodes s.res v] s

end Sys2Proof.Machine
end

