-- ==== Sys2Proof/Machine/Dispatch.lean ====
section
/-! DEFINITION. The dispatch: one arm per request, each one call of its meaning (40_frame_encoder.md R124). -/

namespace Sys2Proof.Machine

def exec (i : Instr) (s : State) : Host.Outcome State Fault Refusal :=
  match i with
  | .writeInput c v => Sys2Proof.Machine.execWriteInput c v s
  | .writeAllChannels vs => Sys2Proof.Machine.execWriteAllChannels vs s
  | .update a => Sys2Proof.Machine.execUpdate a s
  | .updateAllChannels => Sys2Proof.Machine.execUpdateAllChannels s
  | .writeAndUpdate c v => Sys2Proof.Machine.execWriteAndUpdate c v s
  | .writeInputUpdateAll v => Sys2Proof.Machine.execWriteInputUpdateAll v s
  | .setPowerMode a p => Sys2Proof.Machine.execSetPowerMode a p s
  | .setClearCode k => Sys2Proof.Machine.execSetClearCode k s
  | .softwareReset => Sys2Proof.Machine.execSoftwareReset s
  | .setReferenceModeStatic r => Sys2Proof.Machine.execSetReferenceModeStatic r s
  | .setReferenceModeFlex r => Sys2Proof.Machine.execSetReferenceModeFlex r s
  | .sendRawFrame cmd addr data feat => Sys2Proof.Machine.execSendRawFrame cmd addr data feat s
  | .sendRawBytes b0 b1 b2 b3 => Sys2Proof.Machine.execSendRawBytes b0 b1 b2 b3 s

end Sys2Proof.Machine
end

