-- ==== Sys2Proof/Machine/Step.lean ====
section
/-! DEFINITION. One step of the block (00_scope.md R6, 41 R160), and placing a request where the next step takes it. -/

namespace Sys2Proof.Machine

/-- One step: the ports are sampled; block reset comes before everything else; else a request presented to a ready
block is taken; else the state machine moves (R160, R265). -/
def step (s : State) : Host.Outcome State Fault Refusal :=
  if s.ports.rst then .next s.sampled.blockReset
  else
    match s.requestTaken s.ports with
    | some i => exec i s.sampled
    | none => blockStep s.ports.verdict s.sampled

/-- `s` with an instruction of the opcode table presented on `req` in the coming step, to a ready block with its select
line deasserted (R140, R31 (a)): the next step takes it (log 14). A word the decoder refuses leaves no request. -/
def State.withFetchWord (s : State) (nbits w : Nat) : State :=
  { s with
    fsm := .idle
    sel := false
    inputs := ⟨false, decodeTableWord nbits w, .wait⟩ :: s.inputs.tail }

end Sys2Proof.Machine
end

