-- ==== Sys2Proof/Machine/Boot.lean ====
section
/-! DEFINITION. Construction of a block (70_reset_and_hazards.md R300; 10_state.md R28). -/

namespace Sys2Proof.Machine

/-- The block constructed with a resolution of `bits` bits and then reset (R300, R292); a number other than 12, 14
or 16 is refused (R15, R28). -/
def construct (bits : Nat) : Host.Outcome State Fault Refusal :=
  match resolutionOfBits bits with
  | some r => .next { State.reset with res := r }
  | none => .refused (.unsupportedResolution bits)

end Sys2Proof.Machine
end

