-- ==== Sys2Proof/Machine/Trace.lean ====
section
/-! DEFINITION. Reading the wire trace (10_state.md R33; 41_bus_transaction.md R154, R155): its transactions, their bits,
bytes and frames, and the trace a transaction or a request is to have. -/

namespace Sys2Proof.Machine

/-- A trace read as transactions: the bits of each closed one, oldest first, the bits of the open one if there is one,
and the results of the requests that ended. -/
structure TraceView where
  closed : List (List Bool)
  current : Option (List Bool)
  results : List Result
  deriving DecidableEq, Repr

/-- Reading one more event (R33, R154). A bit or a deassertion outside a transaction adds nothing. -/
def TraceView.read (v : TraceView) : Event → TraceView
  | .selAssert => { v with current := some [] }
  | .selDeassert => { v with closed := v.closed ++ v.current.toList, current := none }
  | .bit b => { v with current := v.current.map (· ++ [b]) }
  | .done r => { v with results := v.results ++ [r] }

/-- A trace read as transactions. -/
def traceView (t : List Event) : TraceView := t.foldl TraceView.read ⟨[], none, []⟩

/-- The first k bits of a frame in wire order: bit 31 first (R60, R144). -/
def firstBits (f : Frame) (k : Nat) : List Bool := (List.range k).map fun j => f.getLsbD (31 - j)

/-- The trace of a transaction that carried the first k bits of a frame (R154). -/
def transactionTrace (f : Frame) (k : Nat) : List Event :=
  [.selAssert] ++ (firstBits f k).map .bit ++ [.selDeassert]

/-- The trace of a request all of whose frames completed (R155). -/
def completedTrace (fs : List Frame) : List Event :=
  fs.flatMap (transactionTrace · 32) ++ [.done .ok]

/-- The trace of a request whose frame after `sent` failed with k of its bits on the wire (R155). -/
def failedTrace (sent : List Frame) (f : Frame) (k : Nat) : List Event :=
  sent.flatMap (transactionTrace · 32) ++ transactionTrace f k ++ [.done .transportFailure]

/-- The byte of eight bits, the first one bit 7 (R33, R60). -/
def byteOfBits (b7 b6 b5 b4 b3 b2 b1 b0 : Bool) : Byte :=
  BitVec.ofBool b7 ++ BitVec.ofBool b6 ++ BitVec.ofBool b5 ++ BitVec.ofBool b4 ++
    BitVec.ofBool b3 ++ BitVec.ofBool b2 ++ BitVec.ofBool b1 ++ BitVec.ofBool b0

/-- The byte view of a transaction: its bits eight at a time (R33); bits short of a byte are left out. -/
def bytesOfBits : List Bool → List Byte
  | b7 :: b6 :: b5 :: b4 :: b3 :: b2 :: b1 :: b0 :: rest => byteOfBits b7 b6 b5 b4 b3 b2 b1 b0 :: bytesOfBits rest
  | _ => []

/-- The frame of a complete transaction; none for a partial one (R17, R64). -/
def frameOfBits (bits : List Bool) : Option Frame :=
  match bits.length == Config.frameBits, bytesOfBits bits with
  | true, [b0, b1, b2, b3] => some (frameOfBytes b0 b1 b2 b3)
  | _, _ => none

/-- The complete frames of a trace, oldest first (R17). -/
def completeFrames (t : List Event) : List Frame := (traceView t).closed.filterMap frameOfBits

end Sys2Proof.Machine
end

