-- ==== Sys2Proof/Machine/Device.lean ====
section
/-! DEFINITION. The device's side of a frame, as 10_state.md R36 and the device effects of 42 to 44 describe it.
INFORMATIONAL: the device is outside the block (00 R4), no step reads or writes it, and `none` stands for a value the
spec leaves undetermined (93 I1 to I13; log 18). -/

namespace Sys2Proof.Machine

/-- The device's registers (R36); `none` is a value the spec does not determine. -/
structure Device where
  /-- Each channel's input register. -/
  input : Channel → Option Sample
  /-- Each channel's DAC register. -/
  dac : Channel → Option Sample
  /-- Each channel's power mode (R211). -/
  power : Channel → Option PowerMode
  /-- The reference mode (R214, R216). -/
  reference : Option ReferenceMode
  /-- The clear-code mode (R213). -/
  clearCode : Option ClearCodeMode
  /-- The last complete frame the device was sent, confirmed or not, if there was one: the layer's own, for R68 and
  R299 (log 23). -/
  last : Option Frame

/-- Nothing about the device is determined: after its power-on or software reset (93 I9), and after a frame the spec
gives no device meaning (93 I3, I11). -/
def Device.undetermined : Device := ⟨fun _ => none, fun _ => none, fun _ => none, none, none, none⟩

/-- Whether an address names a channel: Broadcast names all of them (R16). -/
def addresses (a : ChannelAddress) (c : Channel) : Bool :=
  match a with
  | .chan c' => c' == c
  | .broadcast => true

/-- Set the entries of the addressed channels. -/
def setAt {α : Type} (a : ChannelAddress) (value : Channel → α) (old : Channel → α) : Channel → α :=
  fun c => if addresses a c then value c else old c

/-- A flex submode has a meaning only in a device in flex mode (R217, R294, 93 I4; log 19). -/
def Device.setFlex (d : Device) : FlexReference → Device
  | .flexModeEnabled => { d with reference := some (.flex .flexModeEnabled) }
  | r =>
    match d.reference with
    | some (.flex _) => { d with reference := some (.flex r) }
    | _ => { d with reference := none }

/-- The effect of a complete frame on the device (R180 to R188, R210 to R219). `repeated` is a parameter: what a frame
does that is sent again, the last complete frame being the same one. 20 R68 and 91 N12 leave open whether that is harmless
to the device, and nothing is assumed of it; that a frame counts as repeated only right after itself is the model's choice
(DESIGN CHOICE, log 23). The effect of writeInputUpdateAll on the registers and on the reference mode is not given (R183,
93 I10), and a raw frame has no device meaning (93 I3, I11). -/
def Device.apply (repeated : Frame → Device → Device) (d : Device) (f : Frame) : Device :=
  if d.last = some f then { repeated f d with last := some f }
  else
    { (match decode f with
      | .writeInput c v => { d with input := setAt c (fun _ => some (BitVec.ofNat 16 v)) d.input }
      | .writeAllChannels _ => .undetermined
      | .update a => { d with dac := setAt a d.input d.dac }
      | .updateAllChannels => { d with dac := d.input }
      | .writeAndUpdate c v =>
        { d with
          input := setAt c (fun _ => some (BitVec.ofNat 16 v)) d.input
          dac := setAt c (fun _ => some (BitVec.ofNat 16 v)) d.dac }
      | .writeInputUpdateAll _ => { d with input := fun _ => none, dac := fun _ => none, reference := none }
      | .setPowerMode a p => { d with power := setAt a (fun _ => some p) d.power }
      | .setClearCode k => { d with clearCode := some k }
      | .softwareReset => .undetermined
      | .setReferenceModeStatic r => { d with reference := some (.fixed r) }
      | .setReferenceModeFlex r => d.setFlex r
      | .sendRawFrame _ _ _ _ => .undetermined
      | .sendRawBytes _ _ _ _ => .undetermined) with
      last := some f }

/-- A value that is determined only if both outcomes agree on it. -/
def agree {α : Type} [DecidableEq α] (x y : Option α) : Option α := if x = y then x else none

/-- What is determined whichever of two device states is the right one (93 I12). -/
def Device.either (d e : Device) : Device where
  input := fun c => agree (d.input c) (e.input c)
  dac := fun c => agree (d.dac c) (e.dac c)
  power := fun c => agree (d.power c) (e.power c)
  reference := agree d.reference e.reference
  clearCode := agree d.clearCode e.clearCode
  last := agree d.last e.last

/-- The effect of one transaction. `confirmed`: the transport confirmed it, so a complete frame is applied; a complete
frame that was not confirmed may or may not be (R157, R299); a retry of it then is a repeated frame. `partialEffect` is the parameter PARTIAL_FRAME_EFFECT
(R156, 93 I1). Neither gives the parameter a type; that it is a function of the bits sent and of the device's registers is
the model's choice (DESIGN CHOICE, log 18). `repeated` is the parameter of `Device.apply`. -/
def Device.transaction (partialEffect : List Bool → Device → Device) (repeated : Frame → Device → Device)
    (confirmed : Bool) (bits : List Bool) (d : Device) : Device :=
  match frameOfBits bits with
  | some f => if confirmed then d.apply repeated f else { d.either (d.apply repeated f) with last := some f }
  | none => { partialEffect bits d with last := d.last }

/-- The default of PARTIAL_FRAME_EFFECT: no effect on the device, whatever bits were sent (R156). -/
def noPartialEffect (_bits : List Bool) (d : Device) : Device := d

/-- A value of the parameter for a repeated frame under which nothing is known of the device afterwards (R68). -/
def unknownRepeat (_f : Frame) (_d : Device) : Device := .undetermined

end Sys2Proof.Machine
end

