-- ==== Sys2Proof/Safety.lean ====
section
/-! DEFINITION. What claims about the block are stated in: the invariants of 10_state.md R31 and of the serializer
and the wire (R26, R144, R154), the work a request has left (41 R155, R159), and the hazards a host is to avoid
(70_reset_and_hazards.md R293 to R295). -/

namespace Sys2Proof

/-- What a decoder reads back of a typed request sent at a resolution: its samples masked, and updateAllChannels as the
update(Broadcast) it equals (R92, R118). -/
def Instr.readBack (res : Resolution) : Instr → Instr
  | .writeInput c v => .writeInput c (maskSample res (BitVec.ofNat 16 v)).toNat
  | .writeAllChannels vs => .writeAllChannels (vs.map fun v => (maskSample res (BitVec.ofNat 16 v)).toNat)
  | .writeAndUpdate c v => .writeAndUpdate c (maskSample res (BitVec.ofNat 16 v)).toNat
  | .writeInputUpdateAll v => .writeInputUpdateAll (maskSample res (BitVec.ofNat 16 v)).toNat
  | .updateAllChannels => .update .broadcast
  | i => i

/-- A typed operation: every one but the two raw ones (R17). -/
def Instr.typed : Instr → Bool
  | .sendRawFrame _ _ _ _ => false
  | .sendRawBytes _ _ _ _ => false
  | _ => true

end Sys2Proof

namespace Sys2Proof.Machine

/-- `n` steps, stopping at the first fault or refusal. -/
def runSteps (n : Nat) (s : State) : Host.Outcome State Fault Refusal := Host.Core.run Sys2Proof.core n s

/-- Port samples under which the transport always answers GO and no reset is asserted; the request lines are free. -/
def AllGo (ps : List PortSample) : Prop := ∀ p ∈ ps, p.rst = false ∧ p.verdict = .go

/-- `s` with nothing presented on the request port in the coming step (R30, R34). -/
def State.withoutRequest (s : State) : State :=
  { s with inputs := match s.inputs with
      | [] => []
      | p :: ps => { p with req := none } :: ps }

/-- The block's invariants (R31 (a) to (f)). -/
structure BlockInv (s : State) : Prop where
  /-- R31 (a). -/
  selectedIff : s.sel = true ↔ s.fsm = .shift ∨ s.fsm = .release
  /-- R31 (b). -/
  idleClean : s.fsm = .idle → s.queue = [] ∧ s.failed = false
  /-- R31 (c). -/
  selectClean : s.fsm = .select → s.pos = 0 ∧ s.failed = false
  /-- R31 (d). -/
  posBound : s.pos ≤ 32
  /-- R31 (e). -/
  failedRelease : s.failed = true → s.fsm = .release
  /-- R31 (f). -/
  queueBound : s.queue.length ≤ 7

/-- The result port shows no result while a request is in progress (R29), and a frame that has not failed is released
only after all its bits (R149). -/
structure StatusInv (s : State) : Prop where
  busyResult : s.fsm ≠ .idle → s.result = .none
  releasedWhole : s.fsm = .release → s.failed = false → s.pos = 32

/-- Inside a byte, the shift register holds the bits of the byte not yet shifted, at its top (R26). -/
def SerializerInv (s : State) : Prop :=
  s.fsm = .shift → s.pos % 8 ≠ 0 → s.shreg = byteOf s.frame (s.pos / 8) <<< (s.pos % 8)

/-- The open transaction of the trace holds exactly the first `pos` bits of the frame, and there is an open
transaction exactly while the select line is asserted (R143, R144, R154). -/
def WireInv (s : State) : Prop :=
  (traceView s.trace).current = if s.sel then some (firstBits s.frame s.pos) else none

/-- All the invariants together. -/
structure Inv (s : State) : Prop where
  block : BlockInv s
  status : StatusInv s
  serializer : SerializerInv s
  wire : WireInv s

/-- The steps the request in progress has left if the transport answers GO to each of them (R155). -/
def State.stepsLeft (s : State) : Nat :=
  match s.fsm with
  | .idle => 0
  | .select => 35 + 35 * s.queue.length
  | .shift => (34 - s.pos) + 35 * s.queue.length
  | .release => if s.failed then 1 else 1 + 35 * s.queue.length

/-- A sample of which some bits would be dropped without a signal: hazard (a) (R119, R293). -/
def silentLoss (res : Resolution) (v : Sample) : Bool := maskSample res v != v

/-- Hazard (b): a FlexAlwaysOn or FlexAlwaysOff frame with no FlexModeEnabled frame before it, whatever operation sent
them (R246, R294). An enabling frame at any earlier place counts, whatever was sent in between; DEDUCED (log 19).
`enabled`: such a frame has been sent. -/
def flexOrderHazard (enabled : Bool) : List Frame → Bool
  | [] => false
  | f :: fs =>
    if f = flexReferenceFrame specCodes .flexModeEnabled then flexOrderHazard true fs
    else if f = flexReferenceFrame specCodes .flexAlwaysOn ∨ f = flexReferenceFrame specCodes .flexAlwaysOff then
      !enabled || flexOrderHazard enabled fs
    else flexOrderHazard enabled fs

/-- Hazard (c), the host's duty followed over one step: whether it owes the device T_RESET_QUIET before it presents its
next request, `owed` being whether it did before the step (R295). A Done puts the duty on if the frame of the request
that ends is 0x07000000, of softwareReset or of a raw operation, whatever its result and however much of the frame was
sent, and takes it off otherwise. Any other step leaves it, a block reset too, which changes nothing in the device
(R292), but for the acceptance of the next request. DESIGN CHOICE (log 26): the duty ends at that acceptance, whether or
not the wait was made, since the model has no time. -/
def quietTimeOwed (owed : Bool) (before after : State) : Bool :=
  if donePulse before after then before.frame == softwareResetFrame specCodes
  else if before.fsm = .idle ∧ after.fsm = .select then false
  else owed

/-- The duty of hazard (c) over the states a run passes through, one after the other (R295). -/
def quietTimeOwedAfter (owed : Bool) : List State → Bool
  | s :: t :: rest => quietTimeOwedAfter (quietTimeOwed owed s t) (t :: rest)
  | _ => owed

/-- Hazard (c) as the bits of a trace show it: the last complete frame is a software reset, whatever operation sent it
(R246). DESIGN CHOICE (log 26): complete frames only, whatever the result, and also one whose request a block reset cut
off after its last bit, with no Done. -/
def resetFrameSent (t : List Event) : Bool :=
  (completeFrames t).getLast? == some (softwareResetFrame specCodes)

end Sys2Proof.Machine
end

