-- ==== Sys2Proof/Certificates/Slice0/Obligations.lean ====
section
/-! DEFINITION. The statements for the provers. Each docstring cites the rule or section of spec/ it rests on. -/

open Sys2Proof Sys2Proof.Machine

/-! ### The frame packer -/

/-- R110: the five fields of a packed frame are where the rule puts them. -/
def Obligations.PackPlacesFields : Prop :=
  ∀ (cmd addr : Nibble) (data : Sample) (feat : Nibble),
    topField (pack cmd addr data feat) = 0b0000#4 ∧
    cmdField (pack cmd addr data feat) = cmd ∧
    addrField (pack cmd addr data feat) = addr ∧
    dataField (pack cmd addr data feat) = data ∧
    featField (pack cmd addr data feat) = feat

/-- R81, R125: the four bytes of a packed frame. -/
def Obligations.PackedBytes : Prop :=
  ∀ (cmd addr : Nibble) (data : Sample) (feat : Nibble),
    bytesOf (pack cmd addr data feat) =
      [0b0000#4 ++ cmd, addr ++ data.extractLsb' 12 4, data.extractLsb' 4 8, data.extractLsb' 0 4 ++ feat]

/-- R118: the mask of each resolution, and what it keeps of a sample: the top RES bits where they were, zeros below. -/
def Obligations.MaskKeepsTopBits : Prop :=
  resMask .r16 = 0xFFFF#16 ∧ resMask .r14 = 0xFFFC#16 ∧ resMask .r12 = 0xFFF0#16 ∧
  (∀ v : Sample, maskSample .r16 v = v) ∧
  ∀ (res : Resolution) (v : Sample) (k : Nat),
    (maskSample res v).getLsbD k = (v.getLsbD k && decide (16 - res.bits ≤ k))

/-- R126: the prefix nibble of every frame is 0000 unless the operation is sendRawBytes, under any code tables; and
sendRawBytes sends the prefix it is given. -/
def Obligations.OnlyRawBytesSetThePrefix : Prop :=
  (∀ (k : Codes) (res : Resolution) (i : Instr) (f : Frame), f ∈ encodeWith k res i →
    (∀ b0 b1 b2 b3, i ≠ .sendRawBytes b0 b1 b2 b3) → topField f = 0b0000#4) ∧
  ∀ (res : Resolution) (p : Nibble), ∃ i f, i.WellFormed ∧ encode res i = [f] ∧ topField f = p

/-- R119: a nonzero bit below the resolution is dropped silently: each sample operation does exactly what it does with
the masked sample. -/
def Obligations.MaskingIsSilent : Prop :=
  ∀ (s : State) (c : Channel) (v : Sample) (vs : List Sample),
    exec (.writeInput (.chan c) v.toNat) s = exec (.writeInput (.chan c) (maskSample s.res v).toNat) s ∧
    exec (.writeAndUpdate (.chan c) v.toNat) s = exec (.writeAndUpdate (.chan c) (maskSample s.res v).toNat) s ∧
    exec (.writeInputUpdateAll v.toNat) s = exec (.writeInputUpdateAll (maskSample s.res v).toNat) s ∧
    exec (.writeAllChannels (vs.map BitVec.toNat)) s =
      exec (.writeAllChannels (vs.map fun x => (maskSample s.res x).toNat)) s

/-- R241: a raw frame with the four fields of a typed frame is that frame, at any resolution of its own. -/
def Obligations.RawFrameRepeatsTypedFrame : Prop :=
  ∀ (i : Instr) (res res' : Resolution) (f : Frame), i.typed = true → encode res i = [f] →
    encode res' (.sendRawFrame (cmdField f).toNat (addrField f).toNat (dataField f).toNat (featField f).toNat) = [f]

/-- R92 and the encodings of 42 and 43: a well-formed typed request sent at 16 bits is read back from its frames,
every operand at every value; updateAllChannels is the one whose frame has another name first. -/
def Obligations.DecodeEncodeAgree : Prop :=
  ∀ i : Instr, i.WellFormed → i.typed = true → i ≠ .updateAllChannels → decodeFrames (encode .r16 i) = some i

/-- R92, R118: at any resolution a well-formed typed request is read back with its samples masked. -/
def Obligations.DecodeReadsBackMaskedSamples : Prop :=
  ∀ (i : Instr) (res : Resolution), i.WellFormed → i.typed = true →
    decodeFrames (encode res i) = some (i.readBack res)

/-- R92: every 32-bit frame decodes to a well-formed request that sends exactly that frame. -/
def Obligations.EveryFrameIsSomeRequest : Prop :=
  ∀ f : Frame, (decode f).WellFormed ∧ encode .r16 (decode f) = [f]

/-- R92: a frame with a nonzero prefix decodes to sendRawBytes of its bytes, and a frame of no typed row with the prefix
0000 to sendRawFrame of its fields. -/
def Obligations.UntypedFramesDecodeRaw : Prop :=
  (∀ f : Frame, topField f ≠ 0b0000#4 →
    decode f = .sendRawBytes (byteOf f 0).toNat (byteOf f 1).toNat (byteOf f 2).toNat (byteOf f 3).toNat) ∧
  ∀ f : Frame, topField f = 0b0000#4 → (∀ (i : Instr), i.typed = true → i.WellFormed → encode .r16 i ≠ [f]) →
    decode f = .sendRawFrame (cmdField f).toNat (addrField f).toNat (dataField f).toNat (featField f).toNat

/-- Words written out from the rows of opcode_table.json and the vectors of 95_test_vectors.md 2.7. -/
def Obligations.DecodedWords : Prop :=
  decodeTableWord 32 0x0305FFF0 = some (.writeAndUpdate (.chan .A) 0x5FFF) ∧
  decodeTableWord 32 0x04F00300 = some (.setPowerMode .broadcast .powerDownHiZ) ∧
  decodeTableWord 32 0x081A0000 = some (.setReferenceModeFlex .flexAlwaysOn) ∧
  decodeTableWord 32 0x01800000 = some (.sendRawFrame 0b0001 0b1000 0 0) ∧
  decodeTableWord 32 0xF0000000 = some (.sendRawBytes 0xF0 0 0 0)

/-- R60, R61, R33: the 32 bits of a frame in wire order are its bytes, most significant first, and give the frame
back; the data field is bits 12 to 27. -/
def Obligations.WireOrder : Prop :=
  (∀ f : Frame, bytesOfBits (firstBits f 32) = bytesOf f ∧ frameOfBits (firstBits f 32) = some f) ∧
  (∀ (f : Frame) (k n : Nat), k < n → n ≤ 32 → (firstBits f n)[k]? = some (f.getLsbD (31 - k))) ∧
  ∀ (cmd addr : Nibble) (data : Sample) (feat : Nibble) (j : Nat), j < 16 →
    (firstBits (pack cmd addr data feat) 32)[12 + j]? = some (data.getLsbD (15 - j))

/-! ### Each operation: presented to an idle block, it is accepted with its frame (R140). Everything the record update
does not name is unchanged. -/

/-- 42 R180: writeInput. The codes are the spec's decisions D3 and D4 (log 15). -/
def Obligations.WriteInputAccepted : Prop :=
  ∀ (s : State) (c : Channel) (v : Nat), s.fsm = .idle → v < 2 ^ 16 →
    exec (.writeInput (.chan c) v) s =
      .next { s with
        frame := pack 0b0000#4 (addrCode (.chan c)) (maskSample s.res (BitVec.ofNat 16 v)) 0b0000#4
        queue := [], pos := 0, failed := false, result := .none, fsm := .select }

/-- 42 R185: writeAllChannels; channel A's frame is loaded and the seven others queued, B to H in order. -/
def Obligations.WriteAllChannelsAccepted : Prop :=
  ∀ (s : State) (v0 v1 v2 v3 v4 v5 v6 v7 : Nat), s.fsm = .idle →
    (∀ v ∈ [v0, v1, v2, v3, v4, v5, v6, v7], v < 2 ^ 16) →
    exec (.writeAllChannels [v0, v1, v2, v3, v4, v5, v6, v7]) s =
      .next { s with
        frame := pack 0b0000#4 0b0000#4 (maskSample s.res (BitVec.ofNat 16 v0)) 0b0000#4
        queue :=
          [pack 0b0000#4 0b0001#4 (maskSample s.res (BitVec.ofNat 16 v1)) 0b0000#4,
           pack 0b0000#4 0b0010#4 (maskSample s.res (BitVec.ofNat 16 v2)) 0b0000#4,
           pack 0b0000#4 0b0011#4 (maskSample s.res (BitVec.ofNat 16 v3)) 0b0000#4,
           pack 0b0000#4 0b0100#4 (maskSample s.res (BitVec.ofNat 16 v4)) 0b0000#4,
           pack 0b0000#4 0b0101#4 (maskSample s.res (BitVec.ofNat 16 v5)) 0b0000#4,
           pack 0b0000#4 0b0110#4 (maskSample s.res (BitVec.ofNat 16 v6)) 0b0000#4,
           pack 0b0000#4 0b0111#4 (maskSample s.res (BitVec.ofNat 16 v7)) 0b0000#4]
        pos := 0, failed := false, result := .none, fsm := .select }

/-- 42 R181: update of a channel or of all of them. -/
def Obligations.UpdateAccepted : Prop :=
  ∀ (s : State) (a : ChannelAddress), s.fsm = .idle →
    exec (.update a) s =
      .next { s with
        frame := pack 0b0001#4 (addrCode a) 0x0000#16 0b0000#4
        queue := [], pos := 0, failed := false, result := .none, fsm := .select }

/-- 42 R187, 30 R91: updateAllChannels is the constant frame of update(Broadcast) and does what that request does. -/
def Obligations.UpdateAllChannelsAccepted : Prop :=
  ∀ s : State, s.fsm = .idle →
    exec .updateAllChannels s =
      .next { s with
        frame := 0x01F00000#32
        queue := [], pos := 0, failed := false, result := .none, fsm := .select } ∧
    exec .updateAllChannels s = exec (.update .broadcast) s

/-- 42 R182: writeAndUpdate. -/
def Obligations.WriteAndUpdateAccepted : Prop :=
  ∀ (s : State) (c : Channel) (v : Nat), s.fsm = .idle → v < 2 ^ 16 →
    exec (.writeAndUpdate (.chan c) v) s =
      .next { s with
        frame := pack 0b0011#4 (addrCode (.chan c)) (maskSample s.res (BitVec.ofNat 16 v)) 0b0000#4
        queue := [], pos := 0, failed := false, result := .none, fsm := .select }

/-- 42 R183: writeInputUpdateAll, its address fixed to Broadcast (1111, decision D4, log 15). -/
def Obligations.WriteInputUpdateAllAccepted : Prop :=
  ∀ (s : State) (v : Nat), s.fsm = .idle → v < 2 ^ 16 →
    exec (.writeInputUpdateAll v) s =
      .next { s with
        frame := pack 0b0010#4 0b1111#4 (maskSample s.res (BitVec.ofNat 16 v)) 0b0000#4
        queue := [], pos := 0, failed := false, result := .none, fsm := .select }

/-- 43 R210: setPowerMode; the mode is at frame bits 9..8 and every other data bit and the feature nibble are 0.
The modes' codes are those of R113 (decision D5, log 15). -/
def Obligations.SetPowerModeAccepted : Prop :=
  ∀ (s : State) (a : ChannelAddress) (p : PowerMode), s.fsm = .idle →
    ∃ f : Frame,
      exec (.setPowerMode a p) s =
        .next { s with
          frame := f, queue := [], pos := 0, failed := false, result := .none, fsm := .select } ∧
      f.extractLsb' 24 8 = 0x04#8 ∧ addrField f = addrCode a ∧ f.extractLsb' 10 10 = 0#10 ∧
      f.extractLsb' 8 2 = pmCode p ∧ f.extractLsb' 0 8 = 0#8 ∧
      (p = .powerUp → f.extractLsb' 8 2 = 0b00#2) ∧ (p = .powerDownTo1k → f.extractLsb' 8 2 = 0b01#2) ∧
      (p = .powerDownTo100k → f.extractLsb' 8 2 = 0b10#2) ∧ (p = .powerDownHiZ → f.extractLsb' 8 2 = 0b11#2)

/-- 43 R212: setClearCode; the code is at frame bits 3..2 and every bit below the command is 0 but those.
The four frames are the ones R212 gives, with the codes of R114 (decision D6, log 15). -/
def Obligations.SetClearCodeAccepted : Prop :=
  ∀ (s : State) (k : ClearCodeMode), s.fsm = .idle →
    ∃ f : Frame,
      exec (.setClearCode k) s =
        .next { s with
          frame := f, queue := [], pos := 0, failed := false, result := .none, fsm := .select } ∧
      f.extractLsb' 4 28 = 0x0500000#28 ∧ f.extractLsb' 2 2 = ccCode k ∧ f.extractLsb' 0 2 = 0#2 ∧
      (k = .zeroScale → f = 0x05000000#32) ∧ (k = .midScale → f = 0x05000004#32) ∧
      (k = .fullScale → f = 0x05000008#32) ∧ (k = .noOperation → f = 0x0500000C#32)

/-- 43 R219, R221: softwareReset is a constant frame; it changes nothing of the block but through the acceptance. -/
def Obligations.SoftwareResetAccepted : Prop :=
  ∀ s : State, s.fsm = .idle →
    exec .softwareReset s =
      .next { s with
        frame := 0x07000000#32
        queue := [], pos := 0, failed := false, result := .none, fsm := .select }

/-- 43 R214, R117: the static setReferenceMode; frame bit 0 is the enable flag. -/
def Obligations.StaticReferenceAccepted : Prop :=
  ∀ (s : State) (r : StaticReference), s.fsm = .idle →
    exec (.setReferenceModeStatic r) s =
      .next { s with
        frame := if r = .enabled then 0x08000001#32 else 0x08000000#32
        queue := [], pos := 0, failed := false, result := .none, fsm := .select }

/-- 43 R216, R217: the flex setReferenceMode, accepted whatever was sent before. The submodes' codes
are those of R116 (decision D7, log 15). -/
def Obligations.FlexReferenceAccepted : Prop :=
  ∀ (s : State) (r : FlexReference), s.fsm = .idle →
    ∃ f : Frame,
      exec (.setReferenceModeFlex r) s =
        .next { s with
          frame := f, queue := [], pos := 0, failed := false, result := .none, fsm := .select } ∧
      f.extractLsb' 19 13 = 0b0000100000011#13 ∧ f.extractLsb' 17 2 = fxCode r ∧ f.extractLsb' 0 17 = 0#17 ∧
      (r = .flexModeEnabled → f = 0x08180000#32) ∧ (r = .flexAlwaysOn → f = 0x081A0000#32) ∧
      (r = .flexAlwaysOff → f = 0x081C0000#32)

/-- 44 R240: sendRawFrame packs its four operands with the prefix 0000, unmasked at every resolution. -/
def Obligations.SendRawFrameAccepted : Prop :=
  ∀ (s : State) (c a : Nibble) (d : Sample) (f : Nibble), s.fsm = .idle →
    exec (.sendRawFrame c.toNat a.toNat d.toNat f.toNat) s =
      .next { s with
        frame := 0b0000#4 ++ c ++ a ++ d ++ f
        queue := [], pos := 0, failed := false, result := .none, fsm := .select }

/-- 44 R245: sendRawBytes sends its four bytes as given, no field forced. -/
def Obligations.SendRawBytesAccepted : Prop :=
  ∀ (s : State) (b0 b1 b2 b3 : Byte), s.fsm = .idle →
    exec (.sendRawBytes b0.toNat b1.toNat b2.toNat b3.toNat) s =
      .next { s with
        frame := b0 ++ b1 ++ b2 ++ b3
        queue := [], pos := 0, failed := false, result := .none, fsm := .select }

/-- R89: in IDLE every ill-typed request is refused with its reason, and nothing is truncated: Broadcast where a Channel
is needed, a value of more than 16 bits, a list that is not eight long, a raw operand wider than its field; and every
other request is accepted. Which reason is named where two operands are ill-typed (Broadcast before a wide value, a wrong
length before its values) is the model's choice, log 12, and R89 does not say it. -/
def Obligations.IllTypedRequestsRefused : Prop :=
  ∀ s : State, s.fsm = .idle →
    (∀ v, exec (.writeInput .broadcast v) s = .refused (.illTyped .broadcastOperand) ∧
      exec (.writeAndUpdate .broadcast v) s = .refused (.illTyped .broadcastOperand)) ∧
    (∀ (c : Channel) (v : Nat), 2 ^ 16 ≤ v →
      exec (.writeInput (.chan c) v) s = .refused (.illTyped .valueTooWide) ∧
      exec (.writeAndUpdate (.chan c) v) s = .refused (.illTyped .valueTooWide) ∧
      exec (.writeInputUpdateAll v) s = .refused (.illTyped .valueTooWide)) ∧
    (∀ vs : List Nat, vs.length ≠ 8 →
      exec (.writeAllChannels vs) s = .refused (.illTyped .wrongListLength)) ∧
    (∀ (vs : List Nat) (v : Nat), vs.length = 8 → v ∈ vs → 2 ^ 16 ≤ v →
      exec (.writeAllChannels vs) s = .refused (.illTyped .valueTooWide)) ∧
    (∀ c a d f : Nat, 2 ^ 4 ≤ c ∨ 2 ^ 4 ≤ a ∨ 2 ^ 16 ≤ d ∨ 2 ^ 4 ≤ f →
      exec (.sendRawFrame c a d f) s = .refused (.illTyped .rawOperandTooWide)) ∧
    (∀ b0 b1 b2 b3 : Nat, 2 ^ 8 ≤ b0 ∨ 2 ^ 8 ≤ b1 ∨ 2 ^ 8 ≤ b2 ∨ 2 ^ 8 ≤ b3 →
      exec (.sendRawBytes b0 b1 b2 b3) s = .refused (.illTyped .rawOperandTooWide)) ∧
    ∀ i : Instr, i.WellFormed → ∃ t, exec i s = .next t

/-- 10 R30 at the level of one request (log 11): presented to a busy block, any request waits and changes nothing. -/
def Obligations.BusyBlockLeavesRequestWaiting : Prop :=
  ∀ (i : Instr) (s : State), s.fsm ≠ .idle → exec i s = .next s

/-- Frame of an acceptance, for every operation (R140, R143, R221): the configuration, the select line, the shift
register, the ports and the trace are unchanged. -/
def Obligations.AcceptanceFrame : Prop :=
  ∀ (i : Instr) (s t : State), exec i s = .next t →
    t.res = s.res ∧ t.sel = s.sel ∧ t.shreg = s.shreg ∧ t.inputs = s.inputs ∧ t.draws = s.draws ∧ t.trace = s.trace

/-! ### The steps of the state machine -/

/-- 41 R140, R160: a step of a ready block runs the request presented to it, after the ports have been sampled; a word
of the opcode table placed by withFetchWord is run so (log 14). -/
def Obligations.StepRunsPresentedRequest : Prop :=
  (∀ (s : State) (i : Instr), s.fsm = .idle → s.ports.rst = false → s.ports.req = some i →
    step s = exec i { s with inputs := s.inputs.tail, draws := s.draws + 1 }) ∧
  ∀ (s : State) (nbits w : Nat) (i : Instr), decodeTableWord nbits w = some i →
    step (s.withFetchWord nbits w) =
      exec i { s with fsm := .idle, sel := false, inputs := s.inputs.tail, draws := s.draws + 1 }

/-- R140: acceptance as a step: a well-formed request loads its frames, an ill-formed one has no step, and a request
presented to a busy block has no part in the step. -/
def Obligations.AcceptStep : Prop :=
  (∀ (s : State) (i : Instr), s.fsm = .idle → s.ports.rst = false → s.ports.req = some i → i.WellFormed →
    ∃ (f : Frame) (fs : List Frame), encode s.res i = f :: fs ∧
      step s = .next { s with
        frame := f, queue := fs, pos := 0, failed := false, result := .none, fsm := .select
        inputs := s.inputs.tail, draws := s.draws + 1 }) ∧
  (∀ (s : State) (i : Instr) (why : IllTyped), s.fsm = .idle → s.ports.rst = false → s.ports.req = some i →
    i.illTyped = some why → step s = .refused (.illTyped why)) ∧
  (∀ s : State, s.fsm ≠ .idle → step s = step s.withoutRequest) ∧
  encode .r16 (.writeAndUpdate (.chan .A) 0x5FFF) = [0x0305FFF0#32]

/-- R30: ready exactly in IDLE; a request presented to a busy block is not accepted, so the step is the one the block
takes with nothing presented. -/
def Obligations.RequestWaitsWhileBusy : Prop :=
  ∀ s : State, (s.reqReady = true ↔ s.fsm = .idle) ∧ (s.busy = true ↔ s.fsm ≠ .idle) ∧
    (s.busy = true → step s = step s.withoutRequest)

/-- R142: the select step, under every verdict; the select pin goes low. -/
def Obligations.SelectStep : Prop :=
  ∀ s : State, s.fsm = .select → s.ports.rst = false →
    ∃ t, step s = .next t ∧ t.syncN = false ∧
      t = { s with
        sel := true, trace := s.trace ++ [.selAssert], fsm := .shift
        inputs := s.inputs.tail, draws := s.draws + 1 }

/-- R145: the shift step: the register used is the frame's byte `pos / 8` at a byte boundary and S.shreg otherwise, its
top bit goes on the wire, and the register and the position move by one. Where the shift register holds the rest of its
byte (R26), that bit is bit `31 - pos` of the frame (R144). -/
def Obligations.ShiftBitStep : Prop :=
  ∀ s : State, s.fsm = .shift → s.pos < 32 → s.ports.rst = false → s.ports.verdict = .go →
    ∃ sh : Byte, sh = (if s.pos % 8 = 0 then s.frame.extractLsb' (24 - s.pos) 8 else s.shreg) ∧
      (s.pos % 8 = 0 → sh = byteOf s.frame (s.pos / 8)) ∧
      (SerializerInv s → sh.getLsbD 7 = s.frame.getLsbD (31 - s.pos)) ∧
      step s = .next { s with
        trace := s.trace ++ [.bit (sh.getLsbD 7)], shreg := sh <<< 1, pos := s.pos + 1
        inputs := s.inputs.tail, draws := s.draws + 1 }

/-- R146, R160: a SHIFT step with WAIT, and an IDLE step with no request, change nothing but the sampling of the
ports. -/
def Obligations.StutterSteps : Prop :=
  ∀ s : State, s.ports.rst = false →
    (s.fsm = .shift ∧ s.ports.verdict = .wait) ∨ (s.fsm = .idle ∧ s.ports.req = none) →
    step s = .next { s with inputs := s.inputs.tail, draws := s.draws + 1 }

/-- R149: the completion step, and that no other step leaves SHIFT without a failure. -/
def Obligations.CompleteStep : Prop :=
  (∀ s : State, s.fsm = .shift → s.pos = 32 → s.ports.rst = false → s.ports.verdict = .go →
    step s = .next { s with fsm := .release, inputs := s.inputs.tail, draws := s.draws + 1 }) ∧
  ∀ s t : State, s.fsm = .shift → step s = .next t → t.fsm = .release → t.failed = false →
    s.pos = 32 ∧ s.ports.verdict = .go ∧ s.ports.rst = false

/-- R150: FAIL at any position raises TransportFailure; the wire is left with the bits shifted so far. -/
def Obligations.FailStep : Prop :=
  ∀ s : State, s.fsm = .shift → s.pos ≤ 32 → s.ports.rst = false → s.ports.verdict = .fail →
    ∃ t, step s = .next t ∧
      t = { s with failed := true, fsm := .release, inputs := s.inputs.tail, draws := s.draws + 1 } ∧
      (WireInv s → s.sel = true → (traceView t.trace).current = some (firstBits t.frame t.pos))

/-- R151: after a completed frame with more to send, the line is deasserted and the next frame loaded; only
writeAllChannels has more than one frame to send. -/
def Obligations.ReleaseNextStep : Prop :=
  (∀ (s : State) (f : Frame) (fs : List Frame), s.fsm = .release → s.ports.rst = false → s.failed = false →
    s.queue = f :: fs →
    step s = .next { s with
      sel := false, trace := s.trace ++ [.selDeassert], frame := f, queue := fs, pos := 0, fsm := .select
      inputs := s.inputs.tail, draws := s.draws + 1 }) ∧
  ∀ (res : Resolution) (i : Instr), (encode res i).tail ≠ [] → ∃ vs, i = .writeAllChannels vs

/-- R152: after a failure or the last frame, the line is deasserted, then the request ends with its result and the
frames not sent are dropped. -/
def Obligations.ReleaseEndStep : Prop :=
  ∀ s : State, s.fsm = .release → s.ports.rst = false → s.failed = true ∨ s.queue = [] →
    ∃ r, r = (if s.failed then Result.transportFailure else Result.ok) ∧
      step s = .next { s with
        sel := false, trace := s.trace ++ [.selDeassert, .done r], result := r
        queue := [], failed := false, fsm := .idle
        inputs := s.inputs.tail, draws := s.draws + 1 }

/-- R290: block reset in any state, whatever is presented; S.frame and S.shreg are left open, and no Done is emitted. -/
def Obligations.BlockResetStep : Prop :=
  ∀ s : State, s.ports.rst = true → ∃ t, step s = .next t ∧
    t.trace = s.trace ++ (if s.sel then [.selDeassert] else []) ∧
    t.fsm = .idle ∧ t.sel = false ∧ t.pos = 0 ∧ t.queue = [] ∧ t.failed = false ∧ t.result = .none ∧
    t.res = s.res ∧ t.inputs = s.inputs.tail ∧ t.draws = s.draws + 1

/-- R291: a reset during a transaction closes it with the bits shifted so far. -/
def Obligations.ResetClosesTransaction : Prop :=
  ∀ s t : State, WireInv s → s.sel = true → s.ports.rst = true → step s = .next t →
    (traceView t.trace).closed = (traceView s.trace).closed ++ [firstBits s.frame s.pos] ∧
    (traceView t.trace).current = none ∧ (traceView t.trace).results = (traceView s.trace).results

/-- 10 R22 and 70 R292: the fields the spec gives a value at reset have it in State.reset, and the line is high. The
other fields' values are the model's choice (log 1, 3, 4, 5, 6, 8) and are not stated. -/
def Obligations.ResetValues : Prop :=
  State.reset.fsm = .idle ∧ State.reset.sel = false ∧ State.reset.syncN = true ∧ State.reset.pos = 0 ∧
  State.reset.queue = [] ∧ State.reset.failed = false ∧ State.reset.result = .none

/-- 10 R28, 70 R300, 00 R15: construction takes 12, 14 or 16 bits and gives a reset block of that resolution.
That the block is the same in every other field fixes S.frame and S.shreg, which R22 and R290 leave unspecified: the
model's choice (log 5, 6, 8), like the model's own fields (log 1, 3, 4). -/
def Obligations.ConstructionTakesThreeResolutions : Prop :=
  (∀ r : Resolution, construct r.bits = .next { State.reset with res := r }) ∧
  ∀ bits : Nat, bits ≠ 12 → bits ≠ 14 → bits ≠ 16 → construct bits = .refused (.unsupportedResolution bits)

/-- 60 R261: the codes of the result port; 0b11 is never driven. -/
def Obligations.ResultPortCodes : Prop :=
  resultCode .none = 0b00#2 ∧ resultCode .ok = 0b01#2 ∧ resultCode .transportFailure = 0b10#2 ∧
  ∀ s : State, s.resultPort ≠ 0b11#2

/-! ### Invariants and whole-machine rules -/

/-- 10 R31: every step keeps the block's invariants (a) to (f). -/
def Obligations.BlockInvariantKept : Prop :=
  ∀ s t : State, BlockInv s → step s = .next t → BlockInv t

/-- R26, R29, R31, R143, R154: every step keeps all the invariants, the serializer's and the wire's among them. -/
def Obligations.InvariantKept : Prop :=
  ∀ s t : State, Inv s → step s = .next t → Inv t

/-- The invariants hold right after reset, and of a constructed block (R31, R292, R300). -/
def Obligations.InvariantAtReset : Prop :=
  Inv State.reset ∧ ∀ (bits : Nat) (s : State), construct bits = .next s → Inv s

/-- 93 (none is `fault`, none is `stuck`), R262: in a state of the invariants no step faults, and the only refusal is of
an ill-typed request presented to the idle block. -/
def Obligations.OnlyIllTypedRequestsStop : Prop :=
  ∀ s : State, BlockInv s →
    (∀ r, step s ≠ .fault r) ∧
    ∀ r, step s = .refused r →
      s.fsm = .idle ∧ s.ports.rst = false ∧
        ∃ i why, s.ports.req = some i ∧ i.illTyped = some why ∧ r = .illTyped why

/-- 10 R22, R28: no step changes the configured resolution. -/
def Obligations.ResolutionNeverChanges : Prop :=
  ∀ s t : State, step s = .next t → t.res = s.res

/-- 00 R13 and the step rules (41 R140 to R152, R160; 70 R290): a step appends at most two events to the trace of R33
and rewrites none. That the trace is a field of State is the model's choice (log 4). -/
def Obligations.TraceOnlyGrows : Prop :=
  ∀ s t : State, step s = .next t →
    ∃ ev : List Event, t.trace = s.trace ++ ev ∧ ev.length ≤ 2 ∧ newEvents s t = ev

/-- 10 R33, R24; 41 R153: a step emits SelAssert exactly when the line goes from deasserted to asserted, and SelDeassert
exactly when it goes back; the pin is low exactly while the line is asserted. -/
def Obligations.SelectEventsFollowTheLine : Prop :=
  ∀ s t : State, BlockInv s → step s = .next t →
    (Event.selAssert ∈ newEvents s t ↔ s.sel = false ∧ t.sel = true) ∧
    (Event.selDeassert ∈ newEvents s t ↔ s.sel = true ∧ t.sel = false) ∧
    (t.syncN = false ↔ t.sel = true)

/-- 20 R72, 41 R148: without a reset, done is pulsed exactly on the step that brings a busy block back to IDLE, after
the line is deasserted, with the result on the port; and no bit is ever sent by that step. -/
def Obligations.DoneEndsTheRequest : Prop :=
  ∀ s t : State, step s = .next t → s.ports.rst = false →
    (donePulse s t = true ↔ s.fsm ≠ .idle ∧ t.fsm = .idle) ∧
    (donePulse s t = true →
      newEvents s t = [.selDeassert, .done t.result] ∧ t.sel = false ∧ t.result ≠ .none ∧ dinBit s t = none)

/-- 42 R184: a request ends with OK exactly when the transaction then closed carries the 32 bits of the frame and has
not failed; a failed one ends with TRANSPORT_FAILURE and a whole or shorter part of the frame. -/
def Obligations.OkMeansWholeFrame : Prop :=
  ∀ s t : State, Inv s → s.fsm = .release → t.fsm = .idle → s.ports.rst = false → step s = .next t →
    (traceView t.trace).closed = (traceView s.trace).closed ++ [firstBits s.frame s.pos] ∧
    (t.result = .ok ↔ s.failed = false) ∧ (t.result = .transportFailure ↔ s.failed = true) ∧
    (t.result = .ok → s.pos = 32)

/-- 41 R155, R159, R146: each step of a busy block that is neither a WAIT nor a reset brings the request strictly
nearer its end, and a WAIT leaves it as near; so under the fairness of R159 every request ends. -/
def Obligations.EveryAnsweredStepMakesProgress : Prop :=
  ∀ s t : State, BlockInv s → s.fsm ≠ .idle → s.ports.rst = false → step s = .next t →
    (s.fsm = .shift ∧ s.ports.verdict = .wait ∧ t.stepsLeft = s.stepsLeft) ∨ t.stepsLeft < s.stepsLeft

/-- 41 R155, R154, R71, R75, R148: an idle block that is presented a well-formed request, and then GO on every step,
ends it after 1 + 35 n steps, n its number of frames: each frame one whole transaction, in order, then Done(OK),
whatever the request lines show meanwhile. -/
def Obligations.RequestRunsToCompletion : Prop :=
  ∀ (s : State) (i : Instr) (p : PortSample) (gos rest : List PortSample),
    s.fsm = .idle → i.WellFormed → p.rst = false → p.req = some i → AllGo gos →
    gos.length = 35 * (encode s.res i).length → s.inputs = p :: (gos ++ rest) →
    ∃ t, runSteps (1 + 35 * (encode s.res i).length) s = .next t ∧
      t.trace = s.trace ++ completedTrace (encode s.res i) ∧
      t.fsm = .idle ∧ t.sel = false ∧ t.pos = 32 ∧ t.queue = [] ∧ t.failed = false ∧ t.result = .ok ∧
      some t.frame = (encode s.res i).getLast? ∧ t.res = s.res ∧ t.inputs = rest

/-- 41 R155, R147, R150, R152, R157; 42 R185: with FAIL in frame j (counted from 0) after k of its bits, k from 0 to 32,
the request ends after 35 j + k + 4 steps: j whole transactions, one with the first k bits, Done(TRANSPORT_FAILURE),
and no bit of a later frame. -/
def Obligations.RequestStopsAtFirstFailure : Prop :=
  ∀ (s : State) (i : Instr) (p bad last : PortSample) (gos rest : List PortSample) (j k : Nat) (f : Frame),
    s.fsm = .idle → i.WellFormed → p.rst = false → p.req = some i → (encode s.res i)[j]? = some f → k ≤ 32 →
    AllGo gos → gos.length = 35 * j + 1 + k → bad.rst = false → bad.verdict = .fail → last.rst = false →
    s.inputs = p :: (gos ++ bad :: last :: rest) →
    ∃ t, runSteps (35 * j + k + 4) s = .next t ∧
      t.trace = s.trace ++ failedTrace ((encode s.res i).take j) f k ∧
      t.fsm = .idle ∧ t.sel = false ∧ t.pos = k ∧ t.queue = [] ∧ t.failed = false ∧
      t.result = .transportFailure ∧ t.frame = f ∧ t.res = s.res ∧ t.inputs = rest

/-- R157, R299: whatever one-frame request an idle block is presented, if all 32 bits of its frame go out, the next
verdict, GO or FAIL, alone decides the result: the two traces hold the same whole transaction and differ only in Done, so a
failure does not say the frame was not sent. -/
def Obligations.FailureMayCarryTheWholeFrame : Prop :=
  ∀ (s : State) (i : Instr) (f : Frame) (p last : PortSample) (gos : List PortSample) (req : Option Instr),
    s.fsm = .idle → i.WellFormed → encode s.res i = [f] → p.rst = false → p.req = some i → AllGo gos →
    gos.length = 33 → last.rst = false →
    ∃ t u : State,
      runSteps 36 { s with inputs := p :: (gos ++ [⟨false, req, .go⟩, last]) } = .next t ∧
      runSteps 36 { s with inputs := p :: (gos ++ [⟨false, req, .fail⟩, last]) } = .next u ∧
      t.trace = s.trace ++ transactionTrace f 32 ++ [.done .ok] ∧
      u.trace = s.trace ++ transactionTrace f 32 ++ [.done .transportFailure] ∧
      t.result = .ok ∧ u.result = .transportFailure

/-- 00 R17, R155: the trace of a completed request adds its frames to the complete ones; that of a failed one adds those
before the failed frame, and that one only if all its bits were sent. -/
def Obligations.RequestTracesHoldTheirFrames : Prop :=
  ∀ t : List Event,
    (∀ fs : List Frame, completeFrames (t ++ completedTrace fs) = completeFrames t ++ fs) ∧
    ∀ (sent : List Frame) (f : Frame) (k : Nat), k ≤ 32 →
      completeFrames (t ++ failedTrace sent f k) = completeFrames t ++ sent ++ (if k = 32 then [f] else [])

/-- The flex hazard of R294 and R246 as the model reads it: a submode frame with no FlexModeEnabled frame at any earlier
place. That a static reference or software reset frame in between does not matter is the model's reading (DEDUCED,
log 19); the rules do not say it. -/
def Obligations.FlexHazardIsMissingEnable : Prop :=
  ∀ fs : List Frame,
    flexOrderHazard false fs = true ↔
      ∃ j : Nat, (fs[j]? = some 0x081A0000#32 ∨ fs[j]? = some 0x081C0000#32) ∧ ∀ m : Nat, m < j → fs[m]? ≠ some 0x08180000#32

/-! ### The device's side (informational: R36) -/

/-- 10 R36, 42 R180 to R182, R188: writeInput changes a channel's input register and nothing else of the device; update
of the channel or of all moves input registers to DAC registers and changes nothing else; writeAndUpdate sets both
registers of the channel and nothing else. So a writeInput and a later update bring the sample to the output. All of this
is of a frame that does not repeat the last one; a repeated frame does whatever the parameter `repeated` says, of which
nothing is assumed (20 R68). This is the informational device layer (log 18, 23), which keeps the last frame beside the
registers. -/
def Obligations.DeviceStagesThenUpdates : Prop :=
  ∀ (repeated : Frame → Device → Device) (d : Device) (res : Resolution) (c : Channel) (v : Nat), v < 2 ^ 16 →
    ∃ write update updateAll writeUpdate : Frame,
      write = writeInputFrame specCodes res (.chan c) v ∧ update = updateFrame specCodes (.chan c) ∧
      updateAll = updateFrame specCodes .broadcast ∧ writeUpdate = writeAndUpdateFrame specCodes res (.chan c) v ∧
      (d.last ≠ some write → d.apply repeated write =
        { d with
          input := fun c' => if c' = c then some (maskSample res (BitVec.ofNat 16 v)) else d.input c'
          last := some write }) ∧
      (d.last ≠ some update → d.apply repeated update =
        { d with dac := fun c' => if c' = c then d.input c else d.dac c', last := some update }) ∧
      (d.last ≠ some updateAll → d.apply repeated updateAll = { d with dac := d.input, last := some updateAll }) ∧
      (d.last ≠ some writeUpdate → d.apply repeated writeUpdate =
        { d with
          input := fun c' => if c' = c then some (maskSample res (BitVec.ofNat 16 v)) else d.input c'
          dac := fun c' => if c' = c then some (maskSample res (BitVec.ofNat 16 v)) else d.dac c'
          last := some writeUpdate }) ∧
      (d.last ≠ some write →
        ((d.apply repeated write).apply repeated update).dac c = some (maskSample res (BitVec.ofNat 16 v)) ∧
        ((d.apply repeated write).apply repeated updateAll).dac c = some (maskSample res (BitVec.ofNat 16 v))) ∧
      ∀ f : Frame, d.last = some f → d.apply repeated f = { repeated f d with last := some f }

/-! ### The quiet time after a software reset -/

/-- 70 R295, R292; 44 R246; 43 R220: after the Done of a request, with either result, the host owes the quiet time exactly
if the request's frame is 0x07000000, whatever operation sent it, and the block accepts the next request all the same.
A block reset, and any step that neither ends nor accepts a request, leave the duty as it was. That the acceptance of the
next request ends it, the wait made or not, is the model's choice (log 26). -/
def Obligations.QuietTimeOwedAfterSoftwareReset : Prop :=
  ∀ (owed : Bool) (s t : State), step s = .next t →
    (donePulse s t = true →
      (quietTimeOwed owed s t = true ↔ s.frame = 0x07000000#32) ∧
        ∀ i : Instr, i.WellFormed → ∃ u, exec i t = .next u ∧ u.fsm = .select) ∧
    (s.ports.rst = true → quietTimeOwed owed s t = owed) ∧
    (s.fsm ≠ .idle → t.fsm ≠ .idle → quietTimeOwed owed s t = owed) ∧
    (s.fsm = .idle → t.fsm = .idle → quietTimeOwed owed s t = owed) ∧
    (s.fsm = .idle → t.fsm ≠ .idle → quietTimeOwed owed s t = false)
end

