-- ==== Sys2Proof/Laws/Decode.lean ====
section
/-! SUPPORT. The frame packer's lemmas: the bits of a packed frame, and that a meaning checks what R89 checks. -/

namespace Sys2Proof

/-- A packed frame bit by bit (R80, R110). -/
theorem getLsbD_pack (cmd addr : Nibble) (data : Sample) (feat : Nibble) (k : Nat) :
    (pack cmd addr data feat).getLsbD k =
      if k < 4 then feat.getLsbD k
      else if k < 20 then data.getLsbD (k - 4)
      else if k < 24 then addr.getLsbD (k - 20)
      else if k < 28 then cmd.getLsbD (k - 24)
      else false := by
  simp only [pack, BitVec.getLsbD_append]
  by_cases h1 : k < 4
  · simp [h1]
  by_cases h2 : k < 20
  · have : k - 4 < 16 := by omega
    simp [h1, h2, this]
  by_cases h3 : k < 24
  · have a : ¬ k - 4 < 16 := by omega
    have b : k - 4 - 16 < 4 := by omega
    have c : k - 4 - 16 = k - 20 := by omega
    have d : k - 20 < 4 := by omega
    simp [h1, h2, h3, a, c, d]
  by_cases h4 : k < 28
  · have a : ¬ k - 4 < 16 := by omega
    have c : k - 4 - 16 = k - 20 := by omega
    have d : ¬ k - 20 < 4 := by omega
    have e : k - 20 - 4 = k - 24 := by omega
    have g : k - 24 < 4 := by omega
    simp [h1, h2, h3, h4, a, c, d, e, g]
  · have a : ¬ k - 4 < 16 := by omega
    have c : k - 4 - 16 = k - 20 := by omega
    have d : ¬ k - 20 < 4 := by omega
    have e : k - 20 - 4 = k - 24 := by omega
    have g : ¬ k - 24 < 4 := by omega
    simp [h1, h2, h3, h4, a, c, d, e, g]

/-- A frame with the prefix 0000 is the packing of its own four fields (R80, R110). -/
theorem pack_fields {f : Frame} (h : topField f = 0b0000#4) :
    pack (cmdField f) (addrField f) (dataField f) (featField f) = f := by
  have top : ∀ j < 4, f.getLsbD (28 + j) = false := by
    intro j hj
    simpa [topField, hj] using congrArg (fun x => x.getLsbD j) h
  have h0 := top 0 (by omega)
  have h1 := top 1 (by omega)
  have h2 := top 2 (by omega)
  have h3 := top 3 (by omega)
  apply BitVec.eq_of_getLsbD_eq
  intro k hk
  simp only [getLsbD_pack, cmdField, addrField, dataField, featField, BitVec.getLsbD_extractLsb']
  interval_cases k <;> simp_all

/-- A frame is its own four bytes (R81, R125). -/
theorem frameOfBytes_byteOf (f : Frame) :
    frameOfBytes (byteOf f 0) (byteOf f 1) (byteOf f 2) (byteOf f 3) = f := by
  apply BitVec.eq_of_getLsbD_eq
  intro k hk
  simp only [frameOfBytes, byteOf, BitVec.getLsbD_append, BitVec.getLsbD_extractLsb']
  interval_cases k <;> simp

/-- What belonging to a row of the opcode table says (R92). -/
theorem Row.accepts_iff (r : Row) (f : Frame) :
    r.accepts f = true ↔ f &&& r.mask = r.pattern ∧ r.fields.all (·.allows f) = true := by
  simp [Row.accepts]

theorem checkChannelSample_eq (c : ChannelAddress) (v : Nat) :
    Machine.checkChannelSample c v = (Instr.writeInput c v).illTyped := rfl

theorem checkRawFields_eq (c a d f : Nat) :
    Machine.checkRawFields c a d f = (Instr.sendRawFrame c a d f).illTyped := rfl

theorem checkRawBytes_eq (b0 b1 b2 b3 : Nat) :
    Machine.checkRawBytes b0 b1 b2 b3 = (Instr.sendRawBytes b0 b1 b2 b3).illTyped := rfl

@[simp] theorem checkChannel_chan (c : Channel) : checkChannel (.chan c) = none := rfl

/-- A sample passes its check exactly when it has at most 16 bits (R89). -/
theorem checkSample_eq_none_iff (v : Nat) : checkSample v = none ↔ v < 2 ^ 16 := by
  simp only [checkSample]
  split <;> simp_all

/-- The value list passes its check exactly when it has 8 values of at most 16 bits (R89). -/
theorem checkSamples_eq_none_iff (vs : List Nat) :
    checkSamples vs = none ↔ vs.length = 8 ∧ ∀ v ∈ vs, v < 2 ^ 16 := by
  by_cases h : vs.length = 8 <;> by_cases h' : ∀ v ∈ vs, v < 2 ^ 16 <;>
    simp_all [checkSamples, Config.nch]

/-- A raw operand passes its check exactly when it fits its field (R89). -/
theorem checkRaw_eq_none_iff (w v : Nat) : checkRaw w v = none ↔ v < 2 ^ w := by
  simp only [checkRaw]
  split <;> simp_all

end Sys2Proof
end

