-- ==== Sys2Proof/Laws/Device.lean ====
section
/-! SUPPORT. The device layer: setting the registers of addressed channels, and the last frame. -/

namespace Sys2Proof.Machine

/-- A channel address sets that channel's entry. -/
theorem setAt_chan {α : Type} (c : Channel) (value old : Channel → α) :
    setAt (.chan c) value old = fun c' => if c' = c then value c' else old c' := by
  funext c'
  by_cases h : c' = c
  · simp [setAt, addresses, h]
  · simp [setAt, addresses, h, Ne.symm h]

/-- Broadcast sets every entry (R16). -/
@[simp] theorem setAt_broadcast {α : Type} (value old : Channel → α) : setAt .broadcast value old = value := rfl

/-- A frame sent again does what the parameter says (R68). -/
theorem Device.apply_repeated {repeated : Frame → Device → Device} {d : Device} {f : Frame} (h : d.last = some f) :
    d.apply repeated f = { repeated f d with last := some f } := by
  simp [Device.apply, h]

/-- After a complete frame, that frame is the last one. -/
@[simp] theorem Device.apply_last (repeated : Frame → Device → Device) (d : Device) (f : Frame) :
    (d.apply repeated f).last = some f := by
  unfold Device.apply
  split <;> rfl

/-- What a transaction does to the last frame: a complete one becomes it, a partial one leaves it. -/
theorem Device.transaction_last (partialEffect : List Bool → Device → Device) (repeated : Frame → Device → Device)
    (confirmed : Bool) (bits : List Bool) (d : Device) :
    (d.transaction partialEffect repeated confirmed bits).last = (frameOfBits bits).or d.last := by
  unfold Device.transaction
  cases frameOfBits bits <;> cases confirmed <;> simp

end Sys2Proof.Machine
end

