-- ==== Sys2Proof/Laws/State.lean ====
section
/-! SUPPORT. One lemma per field per update of State, each true by unfolding the update once. -/

namespace Sys2Proof.Machine

/-! ### sampled -/

@[simp] theorem State.sampled_res (s : State) : s.sampled.res = s.res := rfl
@[simp] theorem State.sampled_fsm (s : State) : s.sampled.fsm = s.fsm := rfl
@[simp] theorem State.sampled_sel (s : State) : s.sampled.sel = s.sel := rfl
@[simp] theorem State.sampled_frame (s : State) : s.sampled.frame = s.frame := rfl
@[simp] theorem State.sampled_shreg (s : State) : s.sampled.shreg = s.shreg := rfl
@[simp] theorem State.sampled_pos (s : State) : s.sampled.pos = s.pos := rfl
@[simp] theorem State.sampled_queue (s : State) : s.sampled.queue = s.queue := rfl
@[simp] theorem State.sampled_failed (s : State) : s.sampled.failed = s.failed := rfl
@[simp] theorem State.sampled_result (s : State) : s.sampled.result = s.result := rfl
@[simp] theorem State.sampled_inputs (s : State) : s.sampled.inputs = s.inputs.tail := rfl
@[simp] theorem State.sampled_draws (s : State) : s.sampled.draws = s.draws + 1 := rfl
@[simp] theorem State.sampled_trace (s : State) : s.sampled.trace = s.trace := rfl

/-! ### emit -/

@[simp] theorem State.emit_res (e : Event) (s : State) : (s.emit e).res = s.res := rfl
@[simp] theorem State.emit_fsm (e : Event) (s : State) : (s.emit e).fsm = s.fsm := rfl
@[simp] theorem State.emit_sel (e : Event) (s : State) : (s.emit e).sel = s.sel := rfl
@[simp] theorem State.emit_frame (e : Event) (s : State) : (s.emit e).frame = s.frame := rfl
@[simp] theorem State.emit_shreg (e : Event) (s : State) : (s.emit e).shreg = s.shreg := rfl
@[simp] theorem State.emit_pos (e : Event) (s : State) : (s.emit e).pos = s.pos := rfl
@[simp] theorem State.emit_queue (e : Event) (s : State) : (s.emit e).queue = s.queue := rfl
@[simp] theorem State.emit_failed (e : Event) (s : State) : (s.emit e).failed = s.failed := rfl
@[simp] theorem State.emit_result (e : Event) (s : State) : (s.emit e).result = s.result := rfl
@[simp] theorem State.emit_inputs (e : Event) (s : State) : (s.emit e).inputs = s.inputs := rfl
@[simp] theorem State.emit_draws (e : Event) (s : State) : (s.emit e).draws = s.draws := rfl
@[simp] theorem State.emit_trace (e : Event) (s : State) : (s.emit e).trace = s.trace ++ [e] := rfl

/-! ### latch -/

@[simp] theorem State.latch_res (fs : List Frame) (s : State) : (s.latch fs).res = s.res := rfl
@[simp] theorem State.latch_fsm (fs : List Frame) (s : State) : (s.latch fs).fsm = .select := rfl
@[simp] theorem State.latch_sel (fs : List Frame) (s : State) : (s.latch fs).sel = s.sel := rfl
@[simp] theorem State.latch_frame (fs : List Frame) (s : State) : (s.latch fs).frame = fs.headD 0 := rfl
@[simp] theorem State.latch_shreg (fs : List Frame) (s : State) : (s.latch fs).shreg = s.shreg := rfl
@[simp] theorem State.latch_pos (fs : List Frame) (s : State) : (s.latch fs).pos = 0 := rfl
@[simp] theorem State.latch_queue (fs : List Frame) (s : State) : (s.latch fs).queue = fs.tail := rfl
@[simp] theorem State.latch_failed (fs : List Frame) (s : State) : (s.latch fs).failed = false := rfl
@[simp] theorem State.latch_result (fs : List Frame) (s : State) : (s.latch fs).result = .none := rfl
@[simp] theorem State.latch_inputs (fs : List Frame) (s : State) : (s.latch fs).inputs = s.inputs := rfl
@[simp] theorem State.latch_draws (fs : List Frame) (s : State) : (s.latch fs).draws = s.draws := rfl
@[simp] theorem State.latch_trace (fs : List Frame) (s : State) : (s.latch fs).trace = s.trace := rfl

/-! ### selectLine -/

@[simp] theorem State.selectLine_res (s : State) : s.selectLine.res = s.res := rfl
@[simp] theorem State.selectLine_fsm (s : State) : s.selectLine.fsm = .shift := rfl
@[simp] theorem State.selectLine_sel (s : State) : s.selectLine.sel = true := rfl
@[simp] theorem State.selectLine_frame (s : State) : s.selectLine.frame = s.frame := rfl
@[simp] theorem State.selectLine_shreg (s : State) : s.selectLine.shreg = s.shreg := rfl
@[simp] theorem State.selectLine_pos (s : State) : s.selectLine.pos = s.pos := rfl
@[simp] theorem State.selectLine_queue (s : State) : s.selectLine.queue = s.queue := rfl
@[simp] theorem State.selectLine_failed (s : State) : s.selectLine.failed = s.failed := rfl
@[simp] theorem State.selectLine_result (s : State) : s.selectLine.result = s.result := rfl
@[simp] theorem State.selectLine_inputs (s : State) : s.selectLine.inputs = s.inputs := rfl
@[simp] theorem State.selectLine_draws (s : State) : s.selectLine.draws = s.draws := rfl
@[simp] theorem State.selectLine_trace (s : State) : s.selectLine.trace = s.trace ++ [.selAssert] := rfl

/-! ### shiftBit -/

@[simp] theorem State.shiftBit_res (s : State) : s.shiftBit.res = s.res := rfl
@[simp] theorem State.shiftBit_fsm (s : State) : s.shiftBit.fsm = s.fsm := rfl
@[simp] theorem State.shiftBit_sel (s : State) : s.shiftBit.sel = s.sel := rfl
@[simp] theorem State.shiftBit_frame (s : State) : s.shiftBit.frame = s.frame := rfl
@[simp] theorem State.shiftBit_shreg (s : State) : s.shiftBit.shreg = s.shiftByte <<< 1 := rfl
@[simp] theorem State.shiftBit_pos (s : State) : s.shiftBit.pos = s.pos + 1 := rfl
@[simp] theorem State.shiftBit_queue (s : State) : s.shiftBit.queue = s.queue := rfl
@[simp] theorem State.shiftBit_failed (s : State) : s.shiftBit.failed = s.failed := rfl
@[simp] theorem State.shiftBit_result (s : State) : s.shiftBit.result = s.result := rfl
@[simp] theorem State.shiftBit_inputs (s : State) : s.shiftBit.inputs = s.inputs := rfl
@[simp] theorem State.shiftBit_draws (s : State) : s.shiftBit.draws = s.draws := rfl
@[simp] theorem State.shiftBit_trace (s : State) : s.shiftBit.trace = s.trace ++ [.bit (s.shiftByte.getLsbD 7)] := rfl

/-! ### completeFrame -/

@[simp] theorem State.completeFrame_res (s : State) : s.completeFrame.res = s.res := rfl
@[simp] theorem State.completeFrame_fsm (s : State) : s.completeFrame.fsm = .release := rfl
@[simp] theorem State.completeFrame_sel (s : State) : s.completeFrame.sel = s.sel := rfl
@[simp] theorem State.completeFrame_frame (s : State) : s.completeFrame.frame = s.frame := rfl
@[simp] theorem State.completeFrame_shreg (s : State) : s.completeFrame.shreg = s.shreg := rfl
@[simp] theorem State.completeFrame_pos (s : State) : s.completeFrame.pos = s.pos := rfl
@[simp] theorem State.completeFrame_queue (s : State) : s.completeFrame.queue = s.queue := rfl
@[simp] theorem State.completeFrame_failed (s : State) : s.completeFrame.failed = s.failed := rfl
@[simp] theorem State.completeFrame_result (s : State) : s.completeFrame.result = s.result := rfl
@[simp] theorem State.completeFrame_inputs (s : State) : s.completeFrame.inputs = s.inputs := rfl
@[simp] theorem State.completeFrame_draws (s : State) : s.completeFrame.draws = s.draws := rfl
@[simp] theorem State.completeFrame_trace (s : State) : s.completeFrame.trace = s.trace := rfl

/-! ### raiseTransportFailure -/

@[simp] theorem State.raiseTransportFailure_res (s : State) : s.raiseTransportFailure.res = s.res := rfl
@[simp] theorem State.raiseTransportFailure_fsm (s : State) : s.raiseTransportFailure.fsm = .release := rfl
@[simp] theorem State.raiseTransportFailure_sel (s : State) : s.raiseTransportFailure.sel = s.sel := rfl
@[simp] theorem State.raiseTransportFailure_frame (s : State) : s.raiseTransportFailure.frame = s.frame := rfl
@[simp] theorem State.raiseTransportFailure_shreg (s : State) : s.raiseTransportFailure.shreg = s.shreg := rfl
@[simp] theorem State.raiseTransportFailure_pos (s : State) : s.raiseTransportFailure.pos = s.pos := rfl
@[simp] theorem State.raiseTransportFailure_queue (s : State) : s.raiseTransportFailure.queue = s.queue := rfl
@[simp] theorem State.raiseTransportFailure_failed (s : State) : s.raiseTransportFailure.failed = true := rfl
@[simp] theorem State.raiseTransportFailure_result (s : State) : s.raiseTransportFailure.result = s.result := rfl
@[simp] theorem State.raiseTransportFailure_inputs (s : State) : s.raiseTransportFailure.inputs = s.inputs := rfl
@[simp] theorem State.raiseTransportFailure_draws (s : State) : s.raiseTransportFailure.draws = s.draws := rfl
@[simp] theorem State.raiseTransportFailure_trace (s : State) : s.raiseTransportFailure.trace = s.trace := rfl

/-! ### releaseNext -/

@[simp] theorem State.releaseNext_res (s : State) : s.releaseNext.res = s.res := rfl
@[simp] theorem State.releaseNext_fsm (s : State) : s.releaseNext.fsm = .select := rfl
@[simp] theorem State.releaseNext_sel (s : State) : s.releaseNext.sel = false := rfl
@[simp] theorem State.releaseNext_frame (s : State) : s.releaseNext.frame = s.queue.headD 0 := rfl
@[simp] theorem State.releaseNext_shreg (s : State) : s.releaseNext.shreg = s.shreg := rfl
@[simp] theorem State.releaseNext_pos (s : State) : s.releaseNext.pos = 0 := rfl
@[simp] theorem State.releaseNext_queue (s : State) : s.releaseNext.queue = s.queue.tail := rfl
@[simp] theorem State.releaseNext_failed (s : State) : s.releaseNext.failed = s.failed := rfl
@[simp] theorem State.releaseNext_result (s : State) : s.releaseNext.result = s.result := rfl
@[simp] theorem State.releaseNext_inputs (s : State) : s.releaseNext.inputs = s.inputs := rfl
@[simp] theorem State.releaseNext_draws (s : State) : s.releaseNext.draws = s.draws := rfl
@[simp] theorem State.releaseNext_trace (s : State) : s.releaseNext.trace = s.trace ++ [.selDeassert] := rfl

/-! ### releaseEnd -/

@[simp] theorem State.releaseEnd_res (s : State) : s.releaseEnd.res = s.res := rfl
@[simp] theorem State.releaseEnd_fsm (s : State) : s.releaseEnd.fsm = .idle := rfl
@[simp] theorem State.releaseEnd_sel (s : State) : s.releaseEnd.sel = false := rfl
@[simp] theorem State.releaseEnd_frame (s : State) : s.releaseEnd.frame = s.frame := rfl
@[simp] theorem State.releaseEnd_shreg (s : State) : s.releaseEnd.shreg = s.shreg := rfl
@[simp] theorem State.releaseEnd_pos (s : State) : s.releaseEnd.pos = s.pos := rfl
@[simp] theorem State.releaseEnd_queue (s : State) : s.releaseEnd.queue = [] := rfl
@[simp] theorem State.releaseEnd_failed (s : State) : s.releaseEnd.failed = false := rfl
@[simp] theorem State.releaseEnd_result (s : State) : s.releaseEnd.result = endResult s.failed := rfl
@[simp] theorem State.releaseEnd_inputs (s : State) : s.releaseEnd.inputs = s.inputs := rfl
@[simp] theorem State.releaseEnd_draws (s : State) : s.releaseEnd.draws = s.draws := rfl
@[simp] theorem State.releaseEnd_trace (s : State) : s.releaseEnd.trace = s.trace ++ [.selDeassert] ++ [.done (endResult s.failed)] := rfl

/-! ### blockReset -/

@[simp] theorem State.blockReset_fsm (s : State) : s.blockReset.fsm = .idle := rfl
@[simp] theorem State.blockReset_sel (s : State) : s.blockReset.sel = false := rfl
@[simp] theorem State.blockReset_frame (s : State) : s.blockReset.frame = Config.freeFrame s.draws := rfl
@[simp] theorem State.blockReset_shreg (s : State) : s.blockReset.shreg = Config.freeShreg s.draws := rfl
@[simp] theorem State.blockReset_pos (s : State) : s.blockReset.pos = 0 := rfl
@[simp] theorem State.blockReset_queue (s : State) : s.blockReset.queue = [] := rfl
@[simp] theorem State.blockReset_failed (s : State) : s.blockReset.failed = false := rfl
@[simp] theorem State.blockReset_result (s : State) : s.blockReset.result = .none := rfl
@[simp] theorem State.blockReset_res (s : State) : s.blockReset.res = s.res := by
  cases h : s.sel <;> simp [State.blockReset, State.cutOff, h]
@[simp] theorem State.blockReset_inputs (s : State) : s.blockReset.inputs = s.inputs := by
  cases h : s.sel <;> simp [State.blockReset, State.cutOff, h]
@[simp] theorem State.blockReset_draws (s : State) : s.blockReset.draws = s.draws := by
  cases h : s.sel <;> simp [State.blockReset, State.cutOff, h]
@[simp] theorem State.blockReset_trace (s : State) :
    s.blockReset.trace = s.trace ++ (if s.sel then [.selDeassert] else []) := by
  cases h : s.sel <;> simp [State.blockReset, State.cutOff, h]

/-! ### withFetchWord -/

@[simp] theorem State.withFetchWord_res (nbits w : Nat) (s : State) : (s.withFetchWord nbits w).res = s.res := rfl
@[simp] theorem State.withFetchWord_fsm (nbits w : Nat) (s : State) : (s.withFetchWord nbits w).fsm = .idle := rfl
@[simp] theorem State.withFetchWord_sel (nbits w : Nat) (s : State) : (s.withFetchWord nbits w).sel = false := rfl
@[simp] theorem State.withFetchWord_frame (nbits w : Nat) (s : State) : (s.withFetchWord nbits w).frame = s.frame := rfl
@[simp] theorem State.withFetchWord_shreg (nbits w : Nat) (s : State) : (s.withFetchWord nbits w).shreg = s.shreg := rfl
@[simp] theorem State.withFetchWord_pos (nbits w : Nat) (s : State) : (s.withFetchWord nbits w).pos = s.pos := rfl
@[simp] theorem State.withFetchWord_queue (nbits w : Nat) (s : State) : (s.withFetchWord nbits w).queue = s.queue := rfl
@[simp] theorem State.withFetchWord_failed (nbits w : Nat) (s : State) : (s.withFetchWord nbits w).failed = s.failed := rfl
@[simp] theorem State.withFetchWord_result (nbits w : Nat) (s : State) : (s.withFetchWord nbits w).result = s.result := rfl
@[simp] theorem State.withFetchWord_inputs (nbits w : Nat) (s : State) : (s.withFetchWord nbits w).inputs = ⟨false, decodeTableWord nbits w, .wait⟩ :: s.inputs.tail := rfl
@[simp] theorem State.withFetchWord_draws (nbits w : Nat) (s : State) : (s.withFetchWord nbits w).draws = s.draws := rfl
@[simp] theorem State.withFetchWord_trace (nbits w : Nat) (s : State) : (s.withFetchWord nbits w).trace = s.trace := rfl

end Sys2Proof.Machine
end

