-- ==== Sys2Proof/Laws/Ops.lean ====
section
/-! SUPPORT. What the shared operations can do, each said once: presenting a request, every meaning as one acceptance of
its encoding, and the cases of one step. -/

namespace Sys2Proof.Machine

/-- Everything presenting a request can do. -/
theorem acceptRequest_cases (check : Option IllTyped) (fs : List Frame) (s : State) :
    (s.fsm ≠ .idle ∧ acceptRequest check fs s = .next s) ∨
    (s.fsm = .idle ∧ check = none ∧ acceptRequest check fs s = .next (s.latch fs)) ∨
    (s.fsm = .idle ∧ ∃ why, check = some why ∧ acceptRequest check fs s = .refused (.illTyped why)) := by
  by_cases h : s.fsm = .idle
  · cases check <;> simp [acceptRequest, h]
  · simp [acceptRequest, h]

/-- Every meaning presents the request's own check and its own frames. -/
theorem exec_eq_acceptRequest (i : Instr) (s : State) :
    exec i s = acceptRequest i.illTyped (encode s.res i) s := by
  cases i <;> rfl

/-- The events of a step and the cases it falls into: block reset, a request taken, or the state machine's own move. -/
theorem step_cases (s : State) :
    (s.ports.rst = true ∧ step s = .next s.sampled.blockReset) ∨
    (s.ports.rst = false ∧ s.fsm = .idle ∧ ∃ i, s.ports.req = some i ∧ step s = exec i s.sampled) ∨
    (s.ports.rst = false ∧ s.fsm = .idle ∧ s.ports.req = none ∧ step s = .next s.sampled) ∨
    (s.ports.rst = false ∧ s.fsm = .select ∧ step s = .next s.sampled.selectLine) ∨
    (s.ports.rst = false ∧ s.fsm = .shift ∧ step s = shiftStep s.ports.verdict s.sampled) ∨
    (s.ports.rst = false ∧ s.fsm = .release ∧ step s = .next s.sampled.releaseLine) := by
  cases hr : s.ports.rst
  · cases hf : s.fsm
    · cases hq : s.ports.req <;> simp [step, hr, hf, hq, State.requestTaken, blockStep]
    all_goals simp [step, hr, hf, State.requestTaken, blockStep]
  · simp [step, hr]

/-- What a SHIFT step can do when it answers a next state. -/
theorem shiftStep_cases {v : Verdict} {s t : State} (h : shiftStep v s = .next t) :
    (v = .wait ∧ t = s) ∨ (v = .go ∧ s.pos < 32 ∧ t = s.shiftBit) ∨
    (v = .go ∧ s.pos = 32 ∧ t = s.completeFrame) ∨ (v = .fail ∧ s.pos ≤ 32 ∧ t = s.raiseTransportFailure) := by
  cases v with
  | wait => exact .inl ⟨rfl, by simpa [shiftStep] using h.symm⟩
  | go =>
    simp only [shiftStep] at h
    split at h
    · exact .inr (.inl ⟨rfl, ‹_›, by simpa using h.symm⟩)
    · split at h
      · exact .inr (.inr (.inl ⟨rfl, ‹_›, by simpa using h.symm⟩))
      · simp at h
  | fail =>
    simp only [shiftStep] at h
    split at h
    · exact .inr (.inr (.inr ⟨rfl, ‹_›, by simpa using h.symm⟩))
    · simp at h

/-- What the release step can do. -/
theorem releaseLine_cases (s : State) :
    (s.failed = false ∧ s.queue ≠ [] ∧ s.releaseLine = s.releaseNext) ∨
    ((s.failed = true ∨ s.queue = []) ∧ s.releaseLine = s.releaseEnd) := by
  by_cases h : s.failed = false ∧ s.queue ≠ []
  · exact .inl ⟨h.1, h.2, if_pos h⟩
  · refine .inr ⟨?_, if_neg h⟩
    by_contra hc
    simp_all

@[simp] theorem runSteps_zero (s : State) : runSteps 0 s = .next s := rfl

/-- A run of one more step goes through the first step. -/
theorem runSteps_succ_next {n : Nat} {s t : State} (h : step s = .next t) : runSteps (n + 1) s = runSteps n t := by
  have h' : Sys2Proof.core.step s = .next t := h
  simp only [runSteps, Host.Core.run]
  rw [h']

/-- A run whose first step gives a fault ends in it. -/
theorem runSteps_succ_fault {n : Nat} {s : State} {r : Fault} (h : step s = .fault r) :
    runSteps (n + 1) s = .fault r := by
  have h' : Sys2Proof.core.step s = .fault r := h
  simp only [runSteps, Host.Core.run]
  rw [h']
  rfl

/-- A run whose first step is refused ends in the refusal. -/
theorem runSteps_succ_refused {n : Nat} {s : State} {r : Refusal} (h : step s = .refused r) :
    runSteps (n + 1) s = .refused r := by
  have h' : Sys2Proof.core.step s = .refused r := h
  simp only [runSteps, Host.Core.run]
  rw [h']
  rfl

/-- Runs compose. -/
theorem runSteps_add {m n : Nat} {s t : State} (h : runSteps m s = .next t) : runSteps (m + n) s = runSteps n t := by
  induction m generalizing s with
  | zero =>
    have : s = t := by simpa using h
    simp [this]
  | succ m ih =>
    cases hs : step s with
    | next u =>
      rw [runSteps_succ_next hs] at h
      rw [Nat.succ_add, Nat.succ_eq_add_one, runSteps_succ_next hs]
      exact ih h
    | fault r => simp [runSteps_succ_fault hs] at h
    | refused r => simp [runSteps_succ_refused hs] at h

/-! ### The quiet time (R295) -/

/-- A Done decides the duty by the frame of the request that ends. -/
theorem quietTimeOwed_of_done {owed : Bool} {s t : State} (h : donePulse s t = true) :
    quietTimeOwed owed s t = true ↔ s.frame = 0x07000000#32 := by
  have e : softwareResetFrame specCodes = 0x07000000#32 := by decide
  simp [quietTimeOwed, h, e]

/-- An acceptance ends the duty. -/
theorem quietTimeOwed_of_accept {owed : Bool} {s t : State} (h : donePulse s t = false) (hs : s.fsm = .idle)
    (ht : t.fsm = .select) : quietTimeOwed owed s t = false := by
  simp [quietTimeOwed, h, hs, ht]

/-- Any other step leaves the duty as it was. -/
theorem quietTimeOwed_of_neither {owed : Bool} {s t : State} (h : donePulse s t = false)
    (hn : ¬(s.fsm = .idle ∧ t.fsm = .select)) : quietTimeOwed owed s t = owed := by
  simp [quietTimeOwed, h, hn]

end Sys2Proof.Machine
end

