-- ==== Sys2Proof/Laws/PerInstr.lean ====
section
/-! SUPPORT. The per-instruction family FrameCount: under any code tables a well-formed request is one frame, and
writeAllChannels eight (40_frame_encoder.md R122, R124). -/

namespace Sys2Proof.Laws.FrameCount

/-- How many frames a request is sent as (R65). -/
def frames : Instr → Nat
  | .writeAllChannels _ => 8
  | _ => 1

/-- A well-formed request has its number of frames, whatever the tables and the resolution. -/
def Statement (i : Instr) : Prop :=
  i.WellFormed → ∀ (k : Codes) (res : Resolution), (encodeWith k res i).length = frames i

theorem writeInput (c : ChannelAddress) (v : Nat) : Statement (.writeInput c v) := fun _ _ _ => rfl

theorem writeAllChannels (vs : List Nat) : Statement (.writeAllChannels vs) := by
  intro h k res
  have hl := ((checkSamples_eq_none_iff vs).mp h).1
  simp [encodeWith, writeAllFrames, frames, Channel.all, hl]

theorem update (a : ChannelAddress) : Statement (.update a) := fun _ _ _ => rfl

theorem updateAllChannels : Statement .updateAllChannels := fun _ _ _ => rfl

theorem writeAndUpdate (c : ChannelAddress) (v : Nat) : Statement (.writeAndUpdate c v) := fun _ _ _ => rfl

theorem writeInputUpdateAll (v : Nat) : Statement (.writeInputUpdateAll v) := fun _ _ _ => rfl

theorem setPowerMode (a : ChannelAddress) (p : PowerMode) : Statement (.setPowerMode a p) := fun _ _ _ => rfl

theorem setClearCode (k : ClearCodeMode) : Statement (.setClearCode k) := fun _ _ _ => rfl

theorem softwareReset : Statement .softwareReset := fun _ _ _ => rfl

theorem setReferenceModeStatic (r : StaticReference) : Statement (.setReferenceModeStatic r) := fun _ _ _ => rfl

theorem setReferenceModeFlex (r : FlexReference) : Statement (.setReferenceModeFlex r) := fun _ _ _ => rfl

theorem sendRawFrame (cmd addr data feat : Nat) : Statement (.sendRawFrame cmd addr data feat) := fun _ _ _ => rfl

theorem sendRawBytes (b0 b1 b2 b3 : Nat) : Statement (.sendRawBytes b0 b1 b2 b3) := fun _ _ _ => rfl

end Sys2Proof.Laws.FrameCount
end

