-- ==== Sys2Proof/Laws/Trace.lean ====
section
/-! SUPPORT. The trace view under more events, and the bits of a frame one position further. -/

namespace Sys2Proof.Machine

@[simp] theorem traceView_append (t ev : List Event) : traceView (t ++ ev) = ev.foldl TraceView.read (traceView t) := by
  simp [traceView]

@[simp] theorem firstBits_zero (f : Frame) : firstBits f 0 = [] := rfl

@[simp] theorem firstBits_length (f : Frame) (k : Nat) : (firstBits f k).length = k := by
  simp [firstBits]

/-- The next position adds the bit `31 - k` of the frame. -/
theorem firstBits_succ (f : Frame) (k : Nat) : firstBits f (k + 1) = firstBits f k ++ [f.getLsbD (31 - k)] := by
  simp [firstBits, List.range_succ]

@[simp] theorem TraceView.read_selAssert (v : TraceView) : v.read .selAssert = { v with current := some [] } := rfl

@[simp] theorem TraceView.read_selDeassert (v : TraceView) :
    v.read .selDeassert = { v with closed := v.closed ++ v.current.toList, current := none } := rfl

@[simp] theorem TraceView.read_bit (v : TraceView) (b : Bool) :
    v.read (.bit b) = { v with current := v.current.map (· ++ [b]) } := rfl

@[simp] theorem TraceView.read_done (v : TraceView) (r : Result) :
    v.read (.done r) = { v with results := v.results ++ [r] } := rfl

end Sys2Proof.Machine
end

