-- ==== Sys2Proof/Machine/Assembly.lean ====
section
/-! DEFINITION. The textual syntax of a request (30_encoding.md R90): reading one line. What is read is the request as
presented; whether it is well formed is R89's question (log 20). -/

namespace Sys2Proof.Machine

/-- Why a line is no request. -/
inductive AsmError where
  /-- The line is not of the form name(operands). -/
  | notACall
  /-- The name, or the number of operands it is given, is not in R90's list. -/
  | unknownOperation
  /-- An operand is neither of the names nor of the number forms its place takes. -/
  | badOperand
  deriving DecidableEq, Repr

/-- The text before a comment (R90). -/
def stripComment (cs : List Char) : List Char := cs.takeWhile (· != ';')

/-- The text without the white space around it. -/
def trimText (cs : List Char) : List Char :=
  ((cs.dropWhile Char.isWhitespace).reverse.dropWhile Char.isWhitespace).reverse

/-- The pieces of a text between separators. -/
def splitText (sep : Char) : List Char → List (List Char)
  | [] => [[]]
  | c :: cs =>
    match splitText sep cs with
    | [] => [[c]]
    | w :: ws => if c == sep then [] :: w :: ws else (c :: w) :: ws

/-- The text between an opening and a closing mark that are its first and last characters. -/
def insideMarks (opening closing : Char) (cs : List Char) : Option (List Char) :=
  match cs with
  | [] => none
  | c :: rest =>
    match rest.reverse with
    | [] => none
    | last :: inner => if c == opening && last == closing then some inner.reverse else none

/-- The value of a digit, if it is one of the base. -/
def digitOf (base : Nat) (c : Char) : Option Nat :=
  let d :=
    if '0' ≤ c ∧ c ≤ '9' then some (c.toNat - '0'.toNat)
    else if 'a' ≤ c ∧ c ≤ 'f' then some (c.toNat - 'a'.toNat + 10)
    else if 'A' ≤ c ∧ c ≤ 'F' then some (c.toNat - 'A'.toNat + 10)
    else none
  d.filter (· < base)

/-- The number a list of digits writes; no digits write none. -/
def digitsOf (base : Nat) : List Char → Option Nat
  | [] => none
  | cs => cs.foldl (fun acc c => acc.bind fun n => (digitOf base c).map (n * base + ·)) (some 0)

/-- A number in decimal, 0x hex or 0b binary (R90). -/
def numberOf : List Char → Option Nat
  | '0' :: 'x' :: ds => digitsOf 16 ds
  | '0' :: 'b' :: ds => digitsOf 2 ds
  | ds => digitsOf 10 ds

/-- The value a name stands for in a list of names. -/
def named {α : Type} (names : List (String × α)) (cs : List Char) : Option α :=
  (names.find? fun p => p.1.toList == cs).map (·.2)

/-- Channel letters and Broadcast (R90, R14). -/
def addressName : List Char → Option ChannelAddress :=
  named [("A", .chan .A), ("B", .chan .B), ("C", .chan .C), ("D", .chan .D), ("E", .chan .E), ("F", .chan .F),
    ("G", .chan .G), ("H", .chan .H), ("Broadcast", .broadcast)]

/-- PowerMode names (R14). -/
def powerModeName : List Char → Option PowerMode :=
  named [("PowerUp", .powerUp), ("PowerDownTo1k", .powerDownTo1k), ("PowerDownTo100k", .powerDownTo100k),
    ("PowerDownHiZ", .powerDownHiZ)]

/-- ClearCodeMode names (R14). -/
def clearCodeName : List Char → Option ClearCodeMode :=
  named [("ZeroScale", .zeroScale), ("MidScale", .midScale), ("FullScale", .fullScale),
    ("NoOperation", .noOperation)]

/-- ReferenceMode names (R14). -/
def referenceName : List Char → Option ReferenceMode :=
  named [("Disabled", .fixed .disabled), ("Enabled", .fixed .enabled), ("FlexModeEnabled", .flex .flexModeEnabled),
    ("FlexAlwaysOn", .flex .flexAlwaysOn), ("FlexAlwaysOff", .flex .flexAlwaysOff)]

/-- The operation names of R90. -/
inductive AsmName where
  | writeInput | update | writeAndUpdate | writeInputUpdateAll | writeAllChannels | updateAllChannels
  | setPowerMode | setClearCode | setReferenceMode | softwareReset | sendRawFrame | sendRawBytes
  deriving DecidableEq, Repr

/-- Operation names (R90). -/
def operationName : List Char → Option AsmName :=
  named [("writeInput", .writeInput), ("update", .update), ("writeAndUpdate", .writeAndUpdate),
    ("writeInputUpdateAll", .writeInputUpdateAll), ("writeAllChannels", .writeAllChannels),
    ("updateAllChannels", .updateAllChannels), ("setPowerMode", .setPowerMode), ("setClearCode", .setClearCode),
    ("setReferenceMode", .setReferenceMode), ("softwareReset", .softwareReset), ("sendRawFrame", .sendRawFrame),
    ("sendRawBytes", .sendRawBytes)]

/-- The operands of a call, trimmed; an empty operand text has none. -/
def operandTexts (cs : List Char) : List (List Char) :=
  if trimText cs = [] then [] else (splitText ',' cs).map trimText

/-- The values of writeAllChannels' bracketed list (R90). -/
def valueList (cs : List Char) : Option (List Nat) :=
  (insideMarks '[' ']' (trimText cs)).bind fun inner => (operandTexts inner).mapM numberOf

/-- The request of an operation name and its operand texts; `none` where an operand cannot be read. -/
def requestOf (n : AsmName) (args : List Char) : Option (Option Instr) :=
  match n, operandTexts args with
  | .writeInput, [c, v] => some (do pure (.writeInput (← addressName c) (← numberOf v)))
  | .update, [a] => some (do pure (.update (← addressName a)))
  | .writeAndUpdate, [c, v] => some (do pure (.writeAndUpdate (← addressName c) (← numberOf v)))
  | .writeInputUpdateAll, [v] => some (do pure (.writeInputUpdateAll (← numberOf v)))
  | .writeAllChannels, _ => some (do pure (.writeAllChannels (← valueList args)))
  | .updateAllChannels, [] => some (some .updateAllChannels)
  | .setPowerMode, [a, p] => some (do pure (.setPowerMode (← addressName a) (← powerModeName p)))
  | .setClearCode, [k] => some (do pure (.setClearCode (← clearCodeName k)))
  | .setReferenceMode, [r] => some (do pure (.setReferenceMode (← referenceName r)))
  | .softwareReset, [] => some (some .softwareReset)
  | .sendRawFrame, [c, a, d, f] =>
    some (do pure (.sendRawFrame (← numberOf c) (← numberOf a) (← numberOf d) (← numberOf f)))
  | .sendRawBytes, [b0, b1, b2, b3] =>
    some (do pure (.sendRawBytes (← numberOf b0) (← numberOf b1) (← numberOf b2) (← numberOf b3)))
  | _, _ => none

/-- Read one line: its request, or no request where nothing is left before the comment (R90). -/
def parseLine (line : List Char) : Except AsmError (Option Instr) :=
  let text := trimText (stripComment line)
  if text = [] then .ok none
  else
    match insideMarks '(' ')' (text.dropWhile (· != '(')) with
    | none => .error .notACall
    | some args =>
      match (operationName (trimText (text.takeWhile (· != '(')))).bind (requestOf · args) with
      | none => .error .unknownOperation
      | some none => .error .badOperand
      | some (some i) => .ok (some i)

/-- Read a program, one request per line, in the order the host presents them (R21, R90). -/
def parseProgram (text : List Char) : Except AsmError (List Instr) :=
  ((splitText '\n' text).mapM parseLine).map fun rs => rs.filterMap id

end Sys2Proof.Machine
end

