-- ==== Sys2Proof/Tests/Slice0.lean ====
section
/-! SUPPORT. The model's own tests. Expected values are from 95_test_vectors.md (the vector is named) or worked out by
hand from the rule named; none is the model's own answer. -/

namespace Sys2Proof.Tests

open Sys2Proof Sys2Proof.Machine

/-! ### Small states -/

/-- The next state of an outcome. -/
def next? : Host.Outcome State Fault Refusal → Option State
  | .next s => some s
  | _ => none

/-- The refusal of an outcome. -/
def refusal? : Host.Outcome State Fault Refusal → Option Refusal
  | .refused r => some r
  | _ => none

/-- The reset block at a resolution. -/
def idle (res : Resolution) : State := { State.reset with res := res }

/-- The frame an operation loads into an idle block. -/
def loaded (res : Resolution) (i : Instr) : Option Frame := (next? (exec i (idle res))).map (·.frame)

/-- An idle block that is presented a request. -/
def presented (i : Instr) : State := { State.reset with inputs := [⟨false, some i, .wait⟩] }

/-- The block in SHIFT with D00's worked frame, `p` of its bits sent, and a verdict for this step. -/
def shifting (p : Nat) (v : Verdict) : State :=
  { State.reset with
    fsm := .shift
    sel := true
    frame := 0x0305FFF0
    shreg := byteOf 0x0305FFF0 (p / 8) <<< (p % 8)
    pos := p
    inputs := [⟨false, none, v⟩]
    trace := [.selAssert] ++ (firstBits 0x0305FFF0 p).map .bit }

/-- The block about to assert the select line. -/
def selecting : State := { State.reset with fsm := .select, frame := 0x0305FFF0, inputs := [⟨false, none, .fail⟩] }

/-- The block about to release the line after `p` bits. -/
def releasing (p : Nat) (failed : Bool) (queue : List Frame) : State :=
  { shifting p .wait with fsm := .release, failed := failed, queue := queue }

/-- The same block with reset asserted. -/
def resetting (s : State) : State := { s with inputs := [⟨true, none, .go⟩] }

/-! ### Well-formedness (R89): one ill-formed term for each check -/

theorem test_wf_broadcast_writeInput : ¬ (Instr.writeInput .broadcast 0).WellFormed := by decide
theorem test_wf_broadcast_writeAndUpdate : ¬ (Instr.writeAndUpdate .broadcast 0).WellFormed := by decide
theorem test_wf_wide_sample : ¬ (Instr.writeInput (.chan .A) 0x10000).WellFormed := by decide
theorem test_wf_wide_sample_updateAll : ¬ (Instr.writeInputUpdateAll 0x10000).WellFormed := by decide
theorem test_wf_seven_values : ¬ (Instr.writeAllChannels [0, 0, 0, 0, 0, 0, 0]).WellFormed := by decide
theorem test_wf_nine_values : ¬ (Instr.writeAllChannels [0, 0, 0, 0, 0, 0, 0, 0, 0]).WellFormed := by decide
theorem test_wf_wide_value_in_list : ¬ (Instr.writeAllChannels [0, 0, 0, 0, 0, 0, 0, 0x10000]).WellFormed := by decide
theorem test_wf_wide_raw_command : ¬ (Instr.sendRawFrame 16 0 0 0).WellFormed := by decide
theorem test_wf_wide_raw_address : ¬ (Instr.sendRawFrame 0 16 0 0).WellFormed := by decide
theorem test_wf_wide_raw_data : ¬ (Instr.sendRawFrame 0 0 0x10000 0).WellFormed := by decide
theorem test_wf_wide_raw_feature : ¬ (Instr.sendRawFrame 0 0 0 16).WellFormed := by decide
theorem test_wf_wide_raw_byte : ¬ (Instr.sendRawBytes 0 0 0 256).WellFormed := by decide
theorem test_wf_largest_operands :
    (Instr.sendRawFrame 15 15 0xFFFF 15).WellFormed ∧ (Instr.sendRawBytes 255 255 255 255).WellFormed ∧
      (Instr.writeInput (.chan .H) 0xFFFF).WellFormed := by decide

/-! ### Decoding: words written out bit by bit from the rows of opcode_table.json and R80 -/

/-- 0000 0000 0000 0000000000000001 0000 (95, 2.7). -/
theorem test_decode_writeInput : decode 0b00000000000000000000000000010000#32 = .writeInput (.chan .A) 1 := by decide
/-- 0000 0001 1111 and zeros (95, 2.7). -/
theorem test_decode_update : decode 0b00000001111100000000000000000000#32 = .update .broadcast := by decide
/-- 0000 0011 0000 0101111111111111 0000 (95, 2.7). -/
theorem test_decode_writeAndUpdate :
    decode 0b00000011000001011111111111110000#32 = .writeAndUpdate (.chan .A) 0x5FFF := by decide
/-- 0000 0010 1111 1000000000000000 0000 (W-16). -/
theorem test_decode_writeInputUpdateAll :
    decode 0b00000010111110000000000000000000#32 = .writeInputUpdateAll 0x8000 := by decide
/-- 0000 0100 1111, frame bits 9..8 = 11 (95, 2.7). -/
theorem test_decode_setPowerMode :
    decode 0b00000100111100000000001100000000#32 = .setPowerMode .broadcast .powerDownHiZ := by decide
/-- 0000 0101, frame bits 3..2 = 11 (95, 2.7). -/
theorem test_decode_setClearCode : decode 0b00000101000000000000000000001100#32 = .setClearCode .noOperation := by decide
/-- 0000 0111 and zeros (95, 2.7). -/
theorem test_decode_softwareReset : decode 0b00000111000000000000000000000000#32 = .softwareReset := by decide
/-- 0000 1000, frame bit 0 = 1 (95, 2.7). -/
theorem test_decode_setReferenceModeStatic :
    decode 0b00001000000000000000000000000001#32 = .setReferenceModeStatic .enabled := by decide
/-- 0000 1000 0001, frame bit 19 = 1, bits 18..17 = 01 (95, 2.7). -/
theorem test_decode_setReferenceModeFlex :
    decode 0b00001000000110100000000000000000#32 = .setReferenceModeFlex .flexAlwaysOn := by decide
/-- Untyped words of 95, 2.7: an unlisted address, a set feature bit, a bit outside the pm field, fx = 11, SetLdac. -/
theorem test_decode_untyped :
    decode 0x01800000 = .sendRawFrame 1 8 0 0 ∧ decode 0x00800000 = .sendRawFrame 0 8 0 0 ∧
    decode 0x00000001 = .sendRawFrame 0 0 0 1 ∧ decode 0x04F00400 = .sendRawFrame 4 15 0x40 0 ∧
    decode 0x05000001 = .sendRawFrame 5 0 0 1 ∧ decode 0x081E0000 = .sendRawFrame 8 1 0xE000 0 ∧
    decode 0x06000000 = .sendRawFrame 6 0 0 0 := by decide
/-- 1111 0000 and zeros (95, 2.7). -/
theorem test_decode_sendRawBytes : decode 0xF0000000 = .sendRawBytes 0xF0 0 0 0 := by decide
/-- The eight frames of W-8, as one F32x8 row. -/
theorem test_decode_writeAllChannels :
    decodeFrames [0x00000000, 0x00120000, 0x00240000, 0x00360000, 0x00480000, 0x005A0000, 0x006C0000, 0x007FFFF0] =
      some (.writeAllChannels [0x0000, 0x2000, 0x4000, 0x6000, 0x8000, 0xA000, 0xC000, 0xFFFF]) := by decide
/-- Two frames of channel A are no writeAllChannels. -/
theorem test_decode_two_frames : decodeFrames [0, 0] = none := by decide
/-- Three bytes hold no frame (R82). -/
theorem test_decode_three_bytes :
    (match decodeBytes [3, 5, 0xFF] with | .error .shortFrame => true | _ => false) = true := by decide
/-- Bytes in wire order, the rest returned (R60). -/
theorem test_decode_bytes :
    (match decodeBytes [3, 5, 0xFF, 0xF0, 7] with | .ok r => some r | .error _ => none) =
      some (.writeAndUpdate (.chan .A) 0x5FFF, [7]) := by decide

/-! ### The frame of each operation (95, 2.2 to 2.4) -/

/-- W-3: RES = 12. -/
theorem test_writeInput_frame : loaded .r12 (.writeInput (.chan .C) 0x1234) = some 0x00212300 := by decide
/-- W-4: RES = 14. -/
theorem test_writeInput_masked : loaded .r14 (.writeInput (.chan .H) 0xFFFF) = some 0x007FFFC0 := by decide
/-- W-10: RES = 14, the first frame and the queue. -/
theorem test_writeAllChannels_frames :
    (next? (exec (.writeAllChannels [0x0001, 0x1235, 0x2222, 0x3333, 0x4444, 0x5555, 0x6666, 0xFFFF]) (idle .r14))).map
        (fun s => s.frame :: s.queue) =
      some [0x00000000, 0x00112340, 0x00222200, 0x00333300, 0x00444440, 0x00555540, 0x00666640, 0x007FFFC0] := by decide
/-- W-11. -/
theorem test_update_frame : loaded .r16 (.update (.chan .H)) = some 0x01700000 := by decide
/-- W-13. -/
theorem test_updateAllChannels_frame : loaded .r16 .updateAllChannels = some 0x01F00000 := by decide
/-- W-14: RES = 14. -/
theorem test_writeAndUpdate_frame : loaded .r14 (.writeAndUpdate (.chan .A) 0x5FFF) = some 0x0305FFC0 := by decide
/-- W-18: RES = 12. -/
theorem test_writeInputUpdateAll_frame : loaded .r12 (.writeInputUpdateAll 0xABCD) = some 0x02FABC00 := by decide
/-- C-4, not C-5. -/
theorem test_setPowerMode_frame : loaded .r16 (.setPowerMode .broadcast .powerDownHiZ) = some 0x04F00300 := by decide
/-- C-3. -/
theorem test_setPowerMode_channel : loaded .r12 (.setPowerMode (.chan .H) .powerDownTo100k) = some 0x04700200 := by decide
/-- C-6. -/
theorem test_setClearCode_frame : loaded .r16 (.setClearCode .fullScale) = some 0x05000008 := by decide
/-- C-12. -/
theorem test_softwareReset_frame : loaded .r16 .softwareReset = some 0x07000000 := by decide
/-- C-8. -/
theorem test_setReferenceModeStatic_frame : loaded .r16 (.setReferenceModeStatic .enabled) = some 0x08000001 := by decide
/-- C-11. -/
theorem test_setReferenceModeFlex_frame : loaded .r16 (.setReferenceModeFlex .flexAlwaysOff) = some 0x081C0000 := by decide
/-- R-2: RES = 12, not masked. -/
theorem test_sendRawFrame_unmasked : loaded .r12 (.sendRawFrame 0 2 0x1233 0) = some 0x00212330 := by decide
/-- R-4. -/
theorem test_sendRawFrame_unassigned : loaded .r16 (.sendRawFrame 0xF 0xE 0xFFFF 0xF) = some 0x0FEFFFFF := by decide
/-- R-9. -/
theorem test_sendRawBytes_order : loaded .r16 (.sendRawBytes 0x12 0x34 0x56 0x78) = some 0x12345678 := by decide
/-- W-19. -/
theorem test_refused_broadcast :
    refusal? (exec (.writeInput .broadcast 1) (idle .r16)) = some (.illTyped .broadcastOperand) := by decide
/-- W-19. -/
theorem test_refused_seven_values :
    refusal? (exec (.writeAllChannels [0, 0, 0, 0, 0, 0, 0]) (idle .r16)) = some (.illTyped .wrongListLength) := by decide
/-- The first row of 95, 2.1 that distinguishes the three masks: 0x000F. -/
theorem test_mask_000F :
    maskSample .r16 0x000F = 0x000F ∧ maskSample .r14 0x000F = 0x000C ∧ maskSample .r12 0x000F = 0x0000 := by decide
/-- P-9, R128. -/
theorem test_encodeFields :
    encodeFields .r16 .writeInputUpdateOne (.chan .A) 0x5FFF 0 = [0x03, 0x05, 0xFF, 0xF0] := by decide

/-! ### Steps -/

/-- 95, 2.5, pos 0: byte 0 is loaded, bit 0 emitted, register 0x06. -/
theorem test_shift_pos0 :
    (next? (step (shifting 0 .go))).map (fun s => (s.shreg, s.pos, s.trace)) =
      some (0x06, 1, [.selAssert, .bit false]) := by decide
/-- 95, 2.5, pos 7: the second 1 of byte 0x03. -/
theorem test_shift_pos7 :
    (next? (step (shifting 7 .go))).map (fun s => (s.shreg, s.pos, s.trace.getLast?)) =
      some (0x00, 8, some (.bit true)) := by decide
/-- 95, 2.5, pos 16: byte 2 is loaded. -/
theorem test_shift_pos16 :
    (next? (step (shifting 16 .go))).map (fun s => (s.shreg, s.pos, s.trace.getLast?)) =
      some (0xFE, 17, some (.bit true)) := by decide
/-- 95, 2.5, pos 31: the last bit. -/
theorem test_shift_pos31 :
    (next? (step (shifting 31 .go))).map (fun s => (s.shreg, s.pos, s.trace.getLast?)) =
      some (0x00, 32, some (.bit false)) := by decide
/-- T-1, the FAIL step at pos 0: nothing on the wire but the assertion. -/
theorem test_fail_pos0 :
    (next? (step (shifting 0 .fail))).map (fun s => (s.failed, s.fsm, s.trace)) =
      some (true, .release, [.selAssert]) := by decide
/-- R152 after a failure at pos 13 with frames still queued: the queue is dropped (T-2, R147). -/
theorem test_release_after_failure :
    (next? (step (releasing 13 true [1, 2]))).map (fun s => (s.result, s.queue, s.fsm, s.sel, s.pos)) =
      some (.transportFailure, [], .idle, false, 13) := by decide
/-- The order of the two events of R152. -/
theorem test_release_events :
    (next? (step (releasing 32 false []))).map (newEvents (releasing 32 false [])) =
      some [.selDeassert, .done .ok] := by decide
/-- T-5: reset before the step at pos 10. -/
theorem test_reset_mid_transaction :
    (next? (step (resetting (shifting 10 .go)))).map (fun s => (s.fsm, s.sel, s.pos, s.result, newEvents (shifting 10 .go) s)) =
      some (.idle, false, 0, .none, [.selDeassert]) := by decide
/-- T-6: a request presented while busy leaves the step as it was. -/
theorem test_busy_request_waits :
    (next? (step { shifting 3 .go with inputs := [⟨false, some .softwareReset, .go⟩] })).map (·.frame) =
      some 0x0305FFF0 := by decide
/-- R30, R24: ready and line high after reset; busy and low in SHIFT. -/
theorem test_ports :
    State.reset.reqReady = true ∧ State.reset.syncN = true ∧ (shifting 3 .go).busy = true ∧
      (shifting 3 .go).syncN = false := by decide
/-- R15: 13 bits are refused. -/
theorem test_construct_13 : refusal? (construct 13) = some (.unsupportedResolution 13) := by decide
/-- A placed table word runs as the first instruction after reset (log 14). -/
theorem test_withFetchWord :
    (next? (step (State.reset.withFetchWord 32 0x07000000))).map (fun s => (s.frame, s.fsm)) =
      some (0x07000000, .select) := by decide

/-! ### Hazards and the device's side -/

/-- R293: four low bits are lost at RES = 12, none at RES = 16. -/
theorem test_silentLoss : silentLoss .r12 0x000F = true ∧ silentLoss .r16 0x000F = false := by decide
/-- Program 2 keeps the flex order; its variant 2b does not (R294). -/
theorem test_flexOrderHazard :
    flexOrderHazard false [0x07000000, 0x08180000, 0x081A0000] = false ∧
      flexOrderHazard false [0x07000000, 0x081A0000] = true := by decide
/-- The Done of a failed software reset puts the quiet time on; the Done of another frame takes it off; a block reset leaves
it (R295, R292). -/
theorem test_quietTimeOwed :
    (next? (step { releasing 13 true [] with frame := 0x07000000 })).map
        (quietTimeOwed false { releasing 13 true [] with frame := 0x07000000 }) = some true ∧
      (next? (step (releasing 13 true []))).map (quietTimeOwed true (releasing 13 true [])) = some false ∧
      (next? (step (resetting State.reset))).map (quietTimeOwed true (resetting State.reset)) = some true := by decide
/-- Followed over two steps: a Done of a software reset, then a block reset, and the quiet time is still owed (R295). -/
theorem test_quietTimeOwedAfter :
    ((next? (step { releasing 13 true [] with frame := 0x07000000 })).bind fun t =>
        (next? (step (resetting t))).map fun u =>
          quietTimeOwedAfter false [{ releasing 13 true [] with frame := 0x07000000 }, t, u]) = some true := by decide
/-- A trace shows a software reset by its frame's bits, if all of them were sent (R246). -/
theorem test_resetFrameSent :
    resetFrameSent (completedTrace [0x07000000]) = true ∧ resetFrameSent (completedTrace [0x01F00000]) = false ∧
      resetFrameSent (failedTrace [] 0x07000000 31) = false := by decide
/-- A partial frame has no effect by default; a complete unconfirmed one may or may not have been applied (R156, R157). -/
theorem test_device_partial_and_unconfirmed :
    (Device.transaction noPartialEffect unknownRepeat false (firstBits 0x05000004 20)
      { Device.undetermined with clearCode := some .zeroScale }).clearCode = some .zeroScale ∧
    (Device.transaction noPartialEffect unknownRepeat false (firstBits 0x05000004 32)
      { Device.undetermined with clearCode := some .zeroScale }).clearCode = none ∧
    (Device.transaction noPartialEffect unknownRepeat true (firstBits 0x05000004 32)
      { Device.undetermined with clearCode := some .zeroScale }).clearCode = some .midScale := by decide
/-- A flex submode in a device not in flex mode determines no reference mode (93 I4). -/
theorem test_device_flex_order :
    ((Device.undetermined.apply unknownRepeat 0x08180000).apply unknownRepeat 0x081A0000).reference = some (.flex .flexAlwaysOn) ∧
      ((Device.undetermined.apply unknownRepeat 0x08000001).apply unknownRepeat 0x081A0000).reference = none := by decide

/-- A frame sent again after an unconfirmed transaction does what the parameter says, and nothing is known of it here; sent
after another frame it has its own effect (R68, R299). -/
theorem test_device_repeat :
    ((Device.undetermined.transaction noPartialEffect unknownRepeat false (firstBits 0x05000004 32)).apply
        unknownRepeat 0x05000004).clearCode = none ∧
      ((Device.undetermined.transaction noPartialEffect unknownRepeat false (firstBits 0x05000004 32)).apply
        unknownRepeat 0x05000008).clearCode = some .fullScale := by decide
/-- The third frame of 95, program 4: the clear code and the power modes stay, the reference mode is not determined (I10). -/
theorem test_device_writeInputUpdateAll :
    (Device.apply unknownRepeat
        { Device.undetermined with
          clearCode := some .midScale, power := fun _ => some .powerUp, reference := some (.fixed .enabled) }
        0x02FABC00).clearCode = some .midScale ∧
      (Device.apply unknownRepeat
        { Device.undetermined with
          clearCode := some .midScale, power := fun _ => some .powerUp, reference := some (.fixed .enabled) }
        0x02FABC00).reference = none := by decide

/-! ### Textual syntax (R90) -/

/-- What a line is read as. -/
def read? (line : String) : Option Instr :=
  match parseLine line.toList with
  | .ok i => i
  | .error _ => none

/-- A line of 95, program 1, with its comment. -/
theorem test_asm_writeInput :
    read? "writeInput(A, 0x8000)       ; 0x00080000" = some (.writeInput (.chan .A) 0x8000) := by decide
/-- A line of 95, program 5. -/
theorem test_asm_sendRawFrame :
    read? "sendRawFrame(0b0110, 0b0000, 0x0000, 0b0000)" = some (.sendRawFrame 6 0 0 0) := by decide
/-- A line of 95, program 2. -/
theorem test_asm_setReferenceMode :
    read? "setReferenceMode(FlexAlwaysOn)" = some (.setReferenceModeFlex .flexAlwaysOn) := by decide
/-- The bracketed list of R90, numbers in each base. -/
theorem test_asm_writeAllChannels :
    read? "writeAllChannels([1, 0x1f, 0b11, 4, 5, 6, 7, 65535])" =
      some (.writeAllChannels [1, 31, 3, 4, 5, 6, 7, 65535]) := by decide
/-- An unknown name is no request. -/
theorem test_asm_unknown : read? "setLdac(0)" = none := by decide

/-! ### The hypotheses of the statements hold together somewhere: one witness for each statement that has hypotheses,
at the boundary of the range a clause is about -/

/-- An outcome with a next state is one. -/
theorem exists_next {o : Host.Outcome State Fault Refusal} (h : (next? o).isSome = true) : ∃ t, o = .next t := by
  cases o with
  | next s => exact ⟨s, rfl⟩
  | fault r => simp [next?] at h
  | refused r => simp [next?] at h

theorem inv_shifting_13 (v : Verdict) : Inv (shifting 13 v) := by
  refine ⟨⟨?_, ?_, ?_, ?_, ?_, ?_⟩, ⟨?_, ?_⟩, ?_, ?_⟩
  case refine_9 => unfold SerializerInv; cases v <;> decide
  case refine_10 => unfold WireInv; cases v <;> decide
  all_goals cases v <;> decide

theorem inv_releasing_ok : Inv (releasing 32 false []) := by
  refine ⟨⟨?_, ?_, ?_, ?_, ?_, ?_⟩, ⟨?_, ?_⟩, ?_, ?_⟩
  case refine_9 => unfold SerializerInv; decide
  case refine_10 => unfold WireInv; decide
  all_goals decide

theorem inv_releasing_failed : Inv (releasing 13 true [1]) := by
  refine ⟨⟨?_, ?_, ?_, ?_, ?_, ?_⟩, ⟨?_, ?_⟩, ?_, ?_⟩
  case refine_9 => unfold SerializerInv; decide
  case refine_10 => unfold WireInv; decide
  all_goals decide

theorem inv_selecting : BlockInv selecting := by
  refine ⟨?_, ?_, ?_, ?_, ?_, ?_⟩ <;> decide

theorem inv_presented (i : Instr) : BlockInv (presented i) := by
  refine ⟨?_, ?_, ?_, ?_, ?_, ?_⟩ <;> simp [presented, State.reset]

theorem test_witness_OnlyRawBytesSetThePrefix :
    (0x007FFFF0 : Frame) ∈ encodeWith specCodes .r16 (.writeInput (.chan .H) 0xFFFF) ∧
      ∀ b0 b1 b2 b3, Instr.writeInput (.chan .H) 0xFFFF ≠ .sendRawBytes b0 b1 b2 b3 := by
  refine ⟨by decide, ?_⟩
  intro _ _ _ _ h
  cases h

theorem test_witness_RawFrameRepeatsTypedFrame :
    (Instr.setClearCode .midScale).typed = true ∧ encode .r12 (.setClearCode .midScale) = [0x05000004] := by decide

theorem test_witness_DecodeEncodeAgree :
    (Instr.writeAllChannels [0, 1, 2, 3, 4, 5, 6, 0xFFFF]).WellFormed ∧
      (Instr.writeAllChannels [0, 1, 2, 3, 4, 5, 6, 0xFFFF]).typed = true ∧
      Instr.writeAllChannels [0, 1, 2, 3, 4, 5, 6, 0xFFFF] ≠ .updateAllChannels := by decide

theorem test_witness_DecodeReadsBackMaskedSamples :
    (Instr.writeInputUpdateAll 0xFFFF).WellFormed ∧ (Instr.writeInputUpdateAll 0xFFFF).typed = true := by decide

/-- The first clause: a prefix of 1, the least that is not 0. -/
theorem test_witness_UntypedFramesDecodeRaw_top : topField 0x10000000 ≠ 0b0000#4 := by decide

/-- The second clause: command 0110 (SetLdac) is in no typed frame. -/
theorem test_witness_UntypedFramesDecodeRaw_plain :
    topField 0x06000000 = 0b0000#4 ∧
      ∀ i : Instr, i.typed = true → i.WellFormed → encode .r16 i ≠ [0x06000000#32] := by
  refine ⟨by decide, fun i ht hw he => ?_⟩
  have bit (n : Nat) : ((encode .r16 i).headD 0).getLsbD n = (0x06000000#32).getLsbD n := by rw [he]; rfl
  have b24 := bit 24
  have b25 := bit 25
  have b26 := bit 26
  cases i with
  | writeAllChannels vs =>
    have hl := congrArg List.length he
    have h8 := ((checkSamples_eq_none_iff vs).mp hw).1
    simp [encode, encodeWith, writeAllFrames, Channel.all, h8] at hl
  | sendRawFrame => simp [Instr.typed] at ht
  | sendRawBytes => simp [Instr.typed] at ht
  | _ =>
    change (pack _ _ _ _).getLsbD _ = _ at b24 b25 b26
    rw [getLsbD_pack] at b24 b25 b26
    simp [specCodes, cmdCode] at b24 b25 b26

theorem test_witness_WireOrder : (31 < 32 ∧ 32 ≤ 32) ∧ 15 < 16 := by decide

/-- The acceptances: the reset block is idle, and the largest operand passes its check. -/
theorem test_witness_Accepted :
    State.reset.fsm = .idle ∧ 0xFFFF < 2 ^ 16 ∧
      ∀ v ∈ [0, 0xFFFF, 0, 0xFFFF, 0, 0xFFFF, 0, 0xFFFF], v < 2 ^ 16 := by decide

/-- Each kind of ill-typed operand at its least value. -/
theorem test_witness_IllTypedRequestsRefused :
    State.reset.fsm = .idle ∧ 2 ^ 16 ≤ 0x10000 ∧
      [0, 0, 0, 0, 0, 0, 0].length ≠ 8 ∧ [0, 0, 0, 0, 0, 0, 0, 0, 0].length ≠ 8 ∧
      [0, 0, 0, 0, 0, 0, 0, 0x10000].length = 8 ∧ 0x10000 ∈ [0, 0, 0, 0, 0, 0, 0, 0x10000] ∧
      (2 ^ 4 ≤ 16 ∨ 2 ^ 4 ≤ 0 ∨ 2 ^ 16 ≤ 0 ∨ 2 ^ 4 ≤ 0) ∧ (2 ^ 4 ≤ 0 ∨ 2 ^ 4 ≤ 0 ∨ 2 ^ 16 ≤ 0x10000 ∨ 2 ^ 4 ≤ 0) ∧
      (2 ^ 8 ≤ 0 ∨ 2 ^ 8 ≤ 0 ∨ 2 ^ 8 ≤ 0 ∨ 2 ^ 8 ≤ 256) := by decide

theorem test_witness_BusyBlockLeavesRequestWaiting : (shifting 0 .go).fsm ≠ .idle := by decide

theorem test_witness_AcceptanceFrame : ∃ t, exec (.update .broadcast) State.reset = .next t :=
  exists_next (by decide)

theorem test_witness_StepRunsPresentedRequest :
    (presented .softwareReset).fsm = .idle ∧ (presented .softwareReset).ports.rst = false ∧
      (presented .softwareReset).ports.req = some .softwareReset ∧
      decodeTableWord 32 0x07000000 = some .softwareReset := by decide

theorem test_witness_AcceptStep :
    (presented (.writeInput (.chan .A) 0xFFFF)).fsm = .idle ∧
      (presented (.writeInput (.chan .A) 0xFFFF)).ports.rst = false ∧
      (presented (.writeInput (.chan .A) 0xFFFF)).ports.req = some (.writeInput (.chan .A) 0xFFFF) ∧
      (Instr.writeInput (.chan .A) 0xFFFF).WellFormed := by decide

/-- The ill-typed clause, and the clause about a busy block. -/
theorem test_witness_AcceptStep_refused :
    (presented (.writeInput (.chan .A) 0x10000)).fsm = .idle ∧
      (presented (.writeInput (.chan .A) 0x10000)).ports.rst = false ∧
      (presented (.writeInput (.chan .A) 0x10000)).ports.req = some (.writeInput (.chan .A) 0x10000) ∧
      (Instr.writeInput (.chan .A) 0x10000).illTyped = some .valueTooWide ∧ selecting.fsm ≠ .idle := by decide

theorem test_witness_RequestWaitsWhileBusy : (releasing 32 false []).busy = true := by decide

theorem test_witness_SelectStep : selecting.fsm = .select ∧ selecting.ports.rst = false := by decide

/-- Both ends of the positions that shift, and a byte boundary. -/
theorem test_witness_ShiftBitStep :
    (∀ p ∈ [0, 31], (shifting p .go).fsm = .shift ∧ (shifting p .go).pos < 32 ∧ (shifting p .go).ports.rst = false ∧
      (shifting p .go).ports.verdict = .go) ∧ (shifting 24 .go).pos % 8 = 0 := by decide

/-- The clause about the serializer's invariant, inside a byte. -/
theorem test_witness_ShiftBitStep_serializer :
    SerializerInv (shifting 13 .go) ∧ (shifting 13 .go).fsm = .shift ∧ (shifting 13 .go).pos < 32 ∧
      (shifting 13 .go).ports.rst = false ∧ (shifting 13 .go).ports.verdict = .go :=
  ⟨(inv_shifting_13 .go).serializer, by decide, by decide, by decide, by decide⟩

/-- Both clauses: a WAIT in SHIFT, and an idle step with nothing presented. -/
theorem test_witness_StutterSteps :
    ((shifting 32 .wait).ports.rst = false ∧ (shifting 32 .wait).fsm = .shift ∧ (shifting 32 .wait).ports.verdict = .wait) ∧
      State.reset.ports.rst = false ∧ State.reset.fsm = .idle ∧ State.reset.ports.req = none := by
  refine ⟨by decide, rfl, rfl, rfl⟩

theorem test_witness_CompleteStep :
    (shifting 32 .go).fsm = .shift ∧ (shifting 32 .go).pos = 32 ∧ (shifting 32 .go).ports.rst = false ∧
      (shifting 32 .go).ports.verdict = .go ∧
      (next? (step (shifting 32 .go))).map (fun t => (t.fsm, t.failed)) = some (.release, false) := by decide

/-- Both ends of the positions that can fail. -/
theorem test_witness_FailStep :
    (∀ p ∈ [0, 32], (shifting p .fail).fsm = .shift ∧ (shifting p .fail).pos ≤ 32 ∧
      (shifting p .fail).ports.rst = false ∧ (shifting p .fail).ports.verdict = .fail) ∧
      WireInv (shifting 13 .fail) ∧ (shifting 13 .fail).sel = true :=
  ⟨by decide, (inv_shifting_13 .fail).wire, by decide⟩

theorem test_witness_ReleaseNextStep :
    (releasing 32 false [5]).fsm = .release ∧ (releasing 32 false [5]).ports.rst = false ∧
      (releasing 32 false [5]).failed = false ∧ (releasing 32 false [5]).queue = 5 :: [] ∧
      (encode .r16 (.writeAllChannels [0, 0, 0, 0, 0, 0, 0, 0])).tail ≠ [] := by decide

/-- Both ways to end: a failure with frames queued, and the last frame completed. -/
theorem test_witness_ReleaseEndStep :
    ((releasing 13 true [1]).fsm = .release ∧ (releasing 13 true [1]).ports.rst = false ∧
      (releasing 13 true [1]).failed = true) ∧
      (releasing 32 false []).fsm = .release ∧ (releasing 32 false []).ports.rst = false ∧
      (releasing 32 false []).queue = [] := by decide

theorem test_witness_BlockResetStep : (resetting (shifting 10 .go)).ports.rst = true := by decide

theorem test_witness_ResetClosesTransaction :
    WireInv (resetting (shifting 13 .go)) ∧ (resetting (shifting 13 .go)).sel = true ∧
      (resetting (shifting 13 .go)).ports.rst = true ∧ ∃ t, step (resetting (shifting 13 .go)) = .next t :=
  ⟨(inv_shifting_13 .go).wire, by decide, by decide, ⟨_, rfl⟩⟩

theorem test_witness_ConstructionTakesThreeResolutions : ∀ b ∈ [11, 13, 15, 17], b ≠ 12 ∧ b ≠ 14 ∧ b ≠ 16 := by decide

theorem test_witness_InvariantKept :
    Inv (shifting 13 .go) ∧ BlockInv (shifting 13 .go) ∧ ∃ t, step (shifting 13 .go) = .next t :=
  ⟨inv_shifting_13 .go, (inv_shifting_13 .go).block, exists_next (by decide)⟩

theorem test_witness_InvariantAtReset : ∃ s, construct 12 = .next s := ⟨_, rfl⟩

/-- A state of the invariants in which the step is refused. -/
theorem test_witness_OnlyIllTypedRequestsStop :
    BlockInv (presented (.writeInput .broadcast 0)) ∧
      refusal? (step (presented (.writeInput .broadcast 0))) = some (.illTyped .broadcastOperand) :=
  ⟨inv_presented _, by decide⟩

theorem test_witness_ResolutionNeverChanges : ∃ t, step (presented .softwareReset) = .next t :=
  exists_next (by decide)

theorem test_witness_TraceOnlyGrows : ∃ t, step (releasing 32 false []) = .next t := exists_next (by decide)

/-- The select step asserts, the release step deasserts. -/
theorem test_witness_SelectEventsFollowTheLine :
    BlockInv selecting ∧ (next? (step selecting)).map (newEvents selecting) = some [.selAssert] ∧
      BlockInv (releasing 13 true [1]) ∧
      (next? (step (releasing 13 true [1]))).map (newEvents (releasing 13 true [1])) =
        some [.selDeassert, .done .transportFailure] :=
  ⟨inv_selecting, by decide, inv_releasing_failed.block, by decide⟩

theorem test_witness_DoneEndsTheRequest :
    (releasing 32 false []).ports.rst = false ∧
      (next? (step (releasing 32 false []))).map (donePulse (releasing 32 false [])) = some true := by decide

/-- Both results. -/
theorem test_witness_OkMeansWholeFrame :
    (Inv (releasing 32 false []) ∧ (releasing 32 false []).fsm = .release ∧
      (releasing 32 false []).ports.rst = false ∧
      (next? (step (releasing 32 false []))).map (fun t => (t.fsm, t.result)) = some (.idle, .ok)) ∧
    Inv (releasing 13 true [1]) ∧
      (next? (step (releasing 13 true [1]))).map (fun t => (t.fsm, t.result)) = some (.idle, .transportFailure) :=
  ⟨⟨inv_releasing_ok, by decide, by decide, by decide⟩, inv_releasing_failed, by decide⟩

/-- A WAIT and an answered step. -/
theorem test_witness_EveryAnsweredStepMakesProgress :
    ∀ v ∈ [Verdict.wait, Verdict.go],
      BlockInv (shifting 13 v) ∧ (shifting 13 v).fsm ≠ .idle ∧ (shifting 13 v).ports.rst = false ∧
        ∃ t, step (shifting 13 v) = .next t := by
  intro v hv
  refine ⟨(inv_shifting_13 v).block, by simp [shifting], rfl, exists_next ?_⟩
  cases v <;> decide

/-- GO on every one of the 280 steps of a writeAllChannels after its acceptance. -/
theorem test_witness_RequestRunsToCompletion :
    ∃ (p : PortSample) (gos rest : List PortSample) (i : Instr) (s : State),
      s.fsm = .idle ∧ i.WellFormed ∧ p.rst = false ∧ p.req = some i ∧ AllGo gos ∧
        gos.length = 35 * (encode s.res i).length ∧ s.inputs = p :: (gos ++ rest) := by
  refine ⟨⟨false, some (.writeAllChannels [0, 1, 2, 3, 4, 5, 6, 7]), .wait⟩, List.replicate 280 ⟨false, none, .go⟩, [],
    .writeAllChannels [0, 1, 2, 3, 4, 5, 6, 7],
    { State.reset with inputs := ⟨false, some (.writeAllChannels [0, 1, 2, 3, 4, 5, 6, 7]), .wait⟩ ::
        (List.replicate 280 ⟨false, none, .go⟩ ++ []) }, rfl, by decide, rfl, rfl, ?_, ?_, rfl⟩
  · intro q hq
    rw [List.eq_of_mem_replicate hq]
    exact ⟨rfl, rfl⟩
  · rw [List.length_replicate]
    rfl

/-- FAIL at the last position of the last frame of a writeAllChannels. -/
theorem test_witness_RequestStopsAtFirstFailure :
    ∃ (p bad last : PortSample) (gos rest : List PortSample) (i : Instr) (s : State) (j k : Nat) (f : Frame),
      s.fsm = .idle ∧ i.WellFormed ∧ p.rst = false ∧ p.req = some i ∧ (encode s.res i)[j]? = some f ∧ k ≤ 32 ∧
        AllGo gos ∧ gos.length = 35 * j + 1 + k ∧ bad.rst = false ∧ bad.verdict = .fail ∧ last.rst = false ∧
        s.inputs = p :: (gos ++ bad :: last :: rest) ∧ j = 7 ∧ k = 32 := by
  refine ⟨⟨false, some (.writeAllChannels [0, 1, 2, 3, 4, 5, 6, 7]), .wait⟩, ⟨false, none, .fail⟩, ⟨false, none, .wait⟩,
    List.replicate 278 ⟨false, none, .go⟩, [], .writeAllChannels [0, 1, 2, 3, 4, 5, 6, 7],
    { State.reset with inputs := ⟨false, some (.writeAllChannels [0, 1, 2, 3, 4, 5, 6, 7]), .wait⟩ ::
        (List.replicate 278 ⟨false, none, .go⟩ ++ [⟨false, none, .fail⟩, ⟨false, none, .wait⟩]) },
    7, 32, 0x00700070, rfl, by decide, rfl, rfl, by decide, by decide, ?_, ?_, rfl, rfl, rfl, rfl, rfl, rfl⟩
  · intro q hq
    rw [List.eq_of_mem_replicate hq]
    exact ⟨rfl, rfl⟩
  · rw [List.length_replicate]

theorem test_witness_FailureMayCarryTheWholeFrame :
    State.reset.fsm = .idle ∧ Instr.softwareReset.WellFormed ∧
      encode State.reset.res .softwareReset = [0x07000000] ∧
      (⟨false, some .softwareReset, .wait⟩ : PortSample).rst = false ∧
      (⟨false, some .softwareReset, .wait⟩ : PortSample).req = some .softwareReset ∧
      AllGo (List.replicate 33 ⟨false, none, .go⟩) ∧ (List.replicate 33 (⟨false, none, .go⟩ : PortSample)).length = 33 :=
  ⟨rfl, rfl, rfl, rfl, rfl, fun _ hq => List.eq_of_mem_replicate hq ▸ ⟨rfl, rfl⟩, rfl⟩

theorem test_witness_RequestTracesHoldTheirFrames : 0 ≤ 32 ∧ 32 ≤ 32 := by decide

/-- A software reset that failed after 13 bits and the next request; then each kind of other step. -/
theorem test_witness_QuietTimeOwedAfterSoftwareReset :
    (next? (step { releasing 13 true [] with frame := 0x07000000 })).map
        (donePulse { releasing 13 true [] with frame := 0x07000000 }) = some true ∧
      (Instr.update .broadcast).WellFormed ∧ (resetting State.reset).ports.rst = true ∧
      (next? (step (shifting 13 .go))).map (·.fsm) = some .shift ∧
      (next? (step (resetting State.reset))).map (·.fsm) = some .idle ∧
      (next? (step (presented .softwareReset))).map (·.fsm) = some .select := by decide

/-- A device sent nothing yet; and one whose last frame is the one sent again. -/
theorem test_witness_DeviceStagesThenUpdates :
    0xFFFF < 2 ^ 16 ∧ Device.undetermined.last ≠ some (writeInputFrame specCodes .r16 (.chan .H) 0xFFFF) ∧
      Device.undetermined.last ≠ some (updateFrame specCodes (.chan .H)) ∧
      Device.undetermined.last ≠ some (updateFrame specCodes .broadcast) ∧
      Device.undetermined.last ≠ some (writeAndUpdateFrame specCodes .r16 (.chan .H) 0xFFFF) ∧
      (Device.undetermined.apply unknownRepeat 0x05000004).last = some 0x05000004 := by decide

end Sys2Proof.Tests
end

/-! The complete frames of a request's trace (00_scope.md R17; 41_bus_transaction.md R155): reading a
transaction closes it with the bits it carried, and bits are a frame exactly when all 32 were sent. -/

namespace Sys2Proof.Proofs.RequestTraces

open Sys2Proof Sys2Proof.Machine

/-! ### The bits of a frame read back as a frame -/

/-- Eight bits of a frame, the highest first, are the byte that stands there (R60). -/
theorem byteOfBits_getLsbD (f : Frame) (k : Nat) :
    byteOfBits (f.getLsbD (k + 7)) (f.getLsbD (k + 6)) (f.getLsbD (k + 5)) (f.getLsbD (k + 4))
      (f.getLsbD (k + 3)) (f.getLsbD (k + 2)) (f.getLsbD (k + 1)) (f.getLsbD k) = f.extractLsb' k 8 := by
  apply BitVec.eq_of_getLsbD_eq
  intro i hi
  simp only [byteOfBits, BitVec.getLsbD_append, BitVec.getLsbD_extractLsb']
  interval_cases i <;> simp

/-- All 32 bits in wire order are the frame's four bytes (R33, R60). -/
theorem bytesOfBits_firstBits (f : Frame) : bytesOfBits (firstBits f 32) = bytesOf f := by
  simp only [bytesOf, byteOf, ← byteOfBits_getLsbD]
  rfl

/-- All 32 bits in wire order give the frame back (R61). -/
theorem frameOfBits_firstBits_all (f : Frame) : frameOfBits (firstBits f 32) = some f := by
  simp [frameOfBits, Config.frameBits, bytesOfBits_firstBits, bytesOf, frameOfBytes_byteOf]

/-- Bits of any other number are no frame (R17, R64). -/
theorem frameOfBits_eq_none {bits : List Bool} (h : bits.length ≠ 32) : frameOfBits bits = none := by
  simp [frameOfBits, Config.frameBits, h]

/-- The first bits of a frame are a frame exactly when they are all 32 of them (R17). -/
theorem frameOfBits_firstBits (f : Frame) (k : Nat) :
    frameOfBits (firstBits f k) = if k = 32 then some f else none := by
  split
  case isTrue h => rw [h, frameOfBits_firstBits_all]
  case isFalse h => exact frameOfBits_eq_none (by simpa using h)

/-! ### What each part of a request's trace adds to the complete frames -/

/-- Bits read inside an open transaction extend it. -/
theorem foldl_read_bits (bits : List Bool) (v : TraceView) :
    (bits.map Event.bit).foldl TraceView.read v = { v with current := v.current.map (· ++ bits) } := by
  induction bits generalizing v with
  | nil => simp
  | cons b bs ih => simp [ih, Function.comp_def]

/-- A transaction closes with the bits it carried, whatever was read before it (R33, R154). -/
theorem closed_append_transactionTrace (t : List Event) (f : Frame) (k : Nat) :
    (traceView (t ++ transactionTrace f k)).closed = (traceView t).closed ++ [firstBits f k] := by
  simp [transactionTrace, foldl_read_bits]

/-- A transaction adds its frame if all 32 bits were sent, and nothing otherwise (R17). -/
theorem completeFrames_append_transactionTrace (t : List Event) (f : Frame) (k : Nat) :
    completeFrames (t ++ transactionTrace f k) = completeFrames t ++ if k = 32 then [f] else [] := by
  rw [completeFrames, closed_append_transactionTrace, List.filterMap_append, ← completeFrames]
  by_cases h : k = 32
  case pos => simp [frameOfBits_firstBits, h]
  case neg => simp [frameOfBits_firstBits, h]

/-- Whole transactions, one after the other, add their frames in order. -/
theorem completeFrames_append_wholeTransactions (t : List Event) (fs : List Frame) :
    completeFrames (t ++ fs.flatMap (transactionTrace · 32)) = completeFrames t ++ fs := by
  induction fs generalizing t with
  | nil => simp
  | cons f fs ih =>
    rw [List.flatMap_cons, ← List.append_assoc, ih, completeFrames_append_transactionTrace]
    simp

/-- The end of a request adds no frame. -/
theorem completeFrames_append_done (t : List Event) (r : Result) :
    completeFrames (t ++ [.done r]) = completeFrames t := by
  simp [completeFrames]

/-! ### The obligation -/

theorem completeFrames_append_completedTrace (t : List Event) (fs : List Frame) :
    completeFrames (t ++ completedTrace fs) = completeFrames t ++ fs := by
  rw [completedTrace, ← List.append_assoc, completeFrames_append_done, completeFrames_append_wholeTransactions]

theorem completeFrames_append_failedTrace (t : List Event) (sent : List Frame) (f : Frame) (k : Nat) :
    completeFrames (t ++ failedTrace sent f k) = completeFrames t ++ sent ++ if k = 32 then [f] else [] := by
  rw [failedTrace, ← List.append_assoc, ← List.append_assoc, completeFrames_append_done,
    completeFrames_append_transactionTrace, completeFrames_append_wholeTransactions]

/-- Settles O57, from what a whole transaction, a broken-off one and the end of a request each add. -/
theorem requestTracesHoldTheirFrames : Obligations.RequestTracesHoldTheirFrames := fun t =>
  ⟨completeFrames_append_completedTrace t, fun sent f k _ => completeFrames_append_failedTrace t sent f k⟩

end Sys2Proof.Proofs.RequestTraces

/-! What one step of the block can do, said once (41_bus_transaction.md R140 to R160; 70_reset_and_hazards.md R290): the
moves of the block, each with the rule's guard, the wire events it emits and the state it leads to. -/

namespace Sys2Proof.Proofs.StepMoves

open Sys2Proof Sys2Proof.Machine

/-- The moves of the block: `Move s ev t` is a rule enabled in `s` that emits `ev` and leads to `t`. -/
inductive Move (s : State) : List Event → State → Prop
  /-- Block reset comes before everything else (R290). -/
  | reset : s.ports.rst = true → Move s (if s.sel then [.selDeassert] else []) s.sampled.blockReset
  /-- A well-formed request is accepted in IDLE (R140). -/
  | accept (i : Instr) : s.ports.rst = false → s.fsm = .idle → s.ports.req = some i → i.WellFormed →
      Move s [] (s.sampled.latch (encode s.res i))
  /-- Nothing happens in IDLE with no request (R160). -/
  | idle : s.ports.rst = false → s.fsm = .idle → s.ports.req = none → Move s [] s.sampled
  /-- The select line is asserted (R142). -/
  | select : s.ports.rst = false → s.fsm = .select → Move s [.selAssert] s.sampled.selectLine
  /-- The transport stalls (R146). -/
  | wait : s.ports.rst = false → s.fsm = .shift → s.ports.verdict = .wait → Move s [] s.sampled
  /-- One bit is shifted out (R145). -/
  | bit : s.ports.rst = false → s.fsm = .shift → s.ports.verdict = .go → s.pos < 32 →
      Move s [.bit (s.shiftByte.getLsbD 7)] s.sampled.shiftBit
  /-- The transport confirms a whole frame (R149). -/
  | complete : s.ports.rst = false → s.fsm = .shift → s.ports.verdict = .go → s.pos = 32 →
      Move s [] s.sampled.completeFrame
  /-- The transport fails (R150). -/
  | fail : s.ports.rst = false → s.fsm = .shift → s.ports.verdict = .fail → s.pos ≤ 32 →
      Move s [] s.sampled.raiseTransportFailure
  /-- The line is released to the next frame of the request (R151). -/
  | releaseNext : s.ports.rst = false → s.fsm = .release → s.failed = false → s.queue ≠ [] →
      Move s [.selDeassert] s.sampled.releaseNext
  /-- The line is released and the request ends (R152). -/
  | releaseEnd : s.ports.rst = false → s.fsm = .release → s.failed = true ∨ s.queue = [] →
      Move s [.selDeassert, .done (endResult s.failed)] s.sampled.releaseEnd

variable {s t : State} {ev : List Event}

/-- A request taken in IDLE that has a next state is well formed and is latched (R140, R89). -/
theorem exec_sampled_next {i : Instr} (hf : s.fsm = .idle) (h : exec i s.sampled = .next t) :
    i.WellFormed ∧ t = s.sampled.latch (encode s.res i) := by
  rw [exec_eq_acceptRequest] at h
  obtain ⟨busy, -⟩ | ⟨-, hw, he⟩ | ⟨-, _, -, he⟩ :=
    acceptRequest_cases i.illTyped (encode s.sampled.res i) s.sampled
  · exact absurd hf busy
  · rw [he] at h
    exact ⟨hw, (Host.Outcome.next.inj h).symm⟩
  · rw [he] at h
    cases h

/-- Every step that has a next state is one of the moves. -/
theorem exists_move_of_step (h : step s = .next t) : ∃ ev, Move s ev t := by
  obtain ⟨hr, e⟩ | ⟨hr, hf, i, hq, e⟩ | ⟨hr, hf, hq, e⟩ | ⟨hr, hf, e⟩ | ⟨hr, hf, e⟩ | ⟨hr, hf, e⟩ :=
    step_cases s
  all_goals rw [e] at h
  · exact Host.Outcome.next.inj h ▸ ⟨_, .reset hr⟩
  · obtain ⟨hw, rfl⟩ := exec_sampled_next hf h
    exact ⟨_, .accept i hr hf hq hw⟩
  · exact Host.Outcome.next.inj h ▸ ⟨_, .idle hr hf hq⟩
  · exact Host.Outcome.next.inj h ▸ ⟨_, .select hr hf⟩
  · obtain ⟨hv, rfl⟩ | ⟨hv, hp, rfl⟩ | ⟨hv, hp, rfl⟩ | ⟨hv, hp, rfl⟩ := shiftStep_cases h
    · exact ⟨_, .wait hr hf hv⟩
    · exact ⟨_, .bit hr hf hv hp⟩
    · exact ⟨_, .complete hr hf hv hp⟩
    · exact ⟨_, .fail hr hf hv hp⟩
  · rw [← Host.Outcome.next.inj h]
    obtain ⟨hx, hq, e'⟩ | ⟨hx, e'⟩ := releaseLine_cases s.sampled
    · exact e' ▸ ⟨_, .releaseNext hr hf hx hq⟩
    · exact e' ▸ ⟨_, .releaseEnd hr hf hx⟩

/-! ### The trace -/

/-- A move appends its events to the trace. -/
theorem Move.trace_eq (m : Move s ev t) : t.trace = s.trace ++ ev := by
  cases m with
  | reset => exact State.blockReset_trace s.sampled
  | bit => exact State.shiftBit_trace s.sampled
  | _ => simp

/-- The events of a move are the ones its step emitted (R33). -/
theorem Move.newEvents_eq (m : Move s ev t) : newEvents s t = ev := by
  simp [newEvents, m.trace_eq]

theorem Move.events_length_le (m : Move s ev t) : ev.length ≤ 2 := by
  cases m with
  | reset => cases s.sel <;> simp
  | _ => simp

/-- Settles O49: each move appends its own events. -/
theorem traceOnlyGrows : Obligations.TraceOnlyGrows := by
  intro s t h
  obtain ⟨ev, m⟩ := exists_move_of_step h
  exact ⟨ev, m.trace_eq, m.events_length_le, m.newEvents_eq⟩

/-! ### The resolution -/

theorem Move.res_eq (m : Move s ev t) : t.res = s.res := by
  cases m <;> simp

/-- Settles O48: no move changes the resolution. -/
theorem resolutionNeverChanges : Obligations.ResolutionNeverChanges := by
  intro s t h
  obtain ⟨ev, m⟩ := exists_move_of_step h
  exact m.res_eq

/-! ### A request at a busy block -/

/-- While the block is busy, a step is a reset or the state machine's own (R30). -/
theorem step_of_busy (h : s.fsm ≠ .idle) :
    step s = if s.ports.rst then .next s.sampled.blockReset else blockStep s.ports.verdict s.sampled := by
  simp [step, State.requestTaken, h]

@[simp] theorem withoutRequest_sampled (s : State) : s.withoutRequest.sampled = s.sampled := by
  cases h : s.inputs <;> simp [State.withoutRequest, State.sampled, h]

@[simp] theorem withoutRequest_ports (s : State) : s.withoutRequest.ports = { s.ports with req := none } := by
  cases h : s.inputs <;> simp [State.withoutRequest, State.ports, h]

/-- The busy step reads nothing of the request port. -/
theorem step_withoutRequest_of_busy (h : s.fsm ≠ .idle) : step s = step s.withoutRequest := by
  have h' : s.withoutRequest.fsm ≠ .idle := h
  simp [step_of_busy h, step_of_busy h']

/-- Settles O31: ready is IDLE by definition, and a busy step samples the other ports only. -/
theorem requestWaitsWhileBusy : Obligations.RequestWaitsWhileBusy := by
  intro s
  have ready : s.reqReady = true ↔ s.fsm = .idle := by simp [State.reqReady]
  have busy : s.busy = true ↔ s.fsm ≠ .idle := by simp [State.busy, State.reqReady]
  exact ⟨ready, busy, fun h => step_withoutRequest_of_busy (busy.mp h)⟩

/-- Settles O27: every meaning is one acceptance, which leaves a busy block alone. -/
theorem busyBlockLeavesRequestWaiting : Obligations.BusyBlockLeavesRequestWaiting := by
  intro i s h
  simp [exec_eq_acceptRequest, acceptRequest, h]

end Sys2Proof.Proofs.StepMoves

/-! The invariants of the block (10_state.md R31), its status (R29), its serializer (R26, R145) and the wire (R144,
R154): they hold at reset, and every move keeps them. -/

namespace Sys2Proof.Proofs.StateInvariants

open Sys2Proof Sys2Proof.Machine Sys2Proof.Proofs.StepMoves

variable {s t : State} {ev : List Event}

/-! ### The block's invariants (R31) -/

/-- Every well-formed request has its number of frames (R122). -/
theorem frameCount : ∀ i : Instr, Laws.FrameCount.Statement i
  | .writeInput c v => Laws.FrameCount.writeInput c v
  | .writeAllChannels vs => Laws.FrameCount.writeAllChannels vs
  | .update a => Laws.FrameCount.update a
  | .updateAllChannels => Laws.FrameCount.updateAllChannels
  | .writeAndUpdate c v => Laws.FrameCount.writeAndUpdate c v
  | .writeInputUpdateAll v => Laws.FrameCount.writeInputUpdateAll v
  | .setPowerMode a p => Laws.FrameCount.setPowerMode a p
  | .setClearCode k => Laws.FrameCount.setClearCode k
  | .softwareReset => Laws.FrameCount.softwareReset
  | .setReferenceModeStatic r => Laws.FrameCount.setReferenceModeStatic r
  | .setReferenceModeFlex r => Laws.FrameCount.setReferenceModeFlex r
  | .sendRawFrame c a d f => Laws.FrameCount.sendRawFrame c a d f
  | .sendRawBytes b0 b1 b2 b3 => Laws.FrameCount.sendRawBytes b0 b1 b2 b3

/-- A well-formed request leaves at most seven frames to queue behind its first (R27, R31 (f)). -/
theorem encode_tail_length_le {i : Instr} (h : i.WellFormed) (res : Resolution) :
    (encode res i).tail.length ≤ 7 := by
  have count : (encode res i).length = Laws.FrameCount.frames i := frameCount i h specCodes res
  have bound : Laws.FrameCount.frames i ≤ 8 := by cases i <;> simp [Laws.FrameCount.frames]
  rw [List.length_tail]
  omega

theorem blockInv_of_move (h : BlockInv s) (m : Move s ev t) : BlockInv t := by
  obtain ⟨hsel, hidle, hselect, hpos, hfailed, hqueue⟩ := h
  cases m with
  | reset => constructor <;> simp
  | accept i _ hf _ hw =>
    have deselected : s.sel = false := by simpa [hf] using hsel
    have queued := encode_tail_length_le hw s.res
    constructor <;> simp_all
  | idle | wait => exact ⟨hsel, hidle, hselect, hpos, hfailed, hqueue⟩
  | select _ hf =>
    have clean := hselect hf
    constructor <;> simp [clean, hqueue]
  | bit _ hf _ hp =>
    have unfailed : s.failed = false := by simpa [hf] using hfailed
    constructor <;> simp_all
  | complete _ hf | fail _ hf => constructor <;> simp_all
  | releaseNext _ _ hx =>
    constructor <;> simp [hx]
    omega
  | releaseEnd => constructor <;> simp [hpos]

/-- Settles O44: each move keeps R31 (a) to (f). -/
theorem blockInvariantKept : Obligations.BlockInvariantKept := by
  intro s t h hstep
  obtain ⟨ev, m⟩ := exists_move_of_step hstep
  exact blockInv_of_move h m

/-! ### The status (R29, R149) -/

theorem statusInv_of_move (h : StatusInv s) (m : Move s ev t) : StatusInv t := by
  obtain ⟨hbusy, hwhole⟩ := h
  cases m with
  | idle | wait => exact ⟨hbusy, hwhole⟩
  | reset | accept | releaseEnd => constructor <;> simp
  | select _ hf | bit _ hf | complete _ hf | fail _ hf | releaseNext _ hf => constructor <;> simp_all

/-! ### The serializer (R145) -/

/-- The register a shift step uses holds the bits of the byte not yet shifted, at a byte boundary too. -/
theorem shiftByte_eq (h : SerializerInv s) (hf : s.fsm = .shift) :
    s.shiftByte = byteOf s.frame (s.pos / 8) <<< (s.pos % 8) := by
  by_cases boundary : s.pos % 8 = 0
  · have start : 8 * (s.pos / 8) = s.pos := by omega
    simp [State.shiftByte, byteOf, boundary, start]
  · simpa [State.shiftByte, boundary] using h hf boundary

/-- The bit at the top of the shift register is the next bit of the frame, bit 31 first (R60, R144). -/
theorem shiftByte_top (h : SerializerInv s) (hf : s.fsm = .shift) (hp : s.pos < 32) :
    s.shiftByte.getLsbD 7 = s.frame.getLsbD (31 - s.pos) := by
  have place : 24 - 8 * (s.pos / 8) + (7 - s.pos % 8) = 31 - s.pos := by omega
  have reach : ¬7 < s.pos % 8 := by omega
  simp [shiftByte_eq h hf, byteOf, place, reach]

theorem serializerInv_shiftBit (h : SerializerInv s) : SerializerInv s.shiftBit := by
  intro hf inByte
  simp only [State.shiftBit_fsm, State.shiftBit_pos] at hf inByte
  have sameByte : (s.pos + 1) / 8 = s.pos / 8 := by omega
  have nextBit : (s.pos + 1) % 8 = s.pos % 8 + 1 := by omega
  simp [shiftByte_eq h hf, sameByte, nextBit, BitVec.shiftLeft_add]

theorem serializerInv_of_move (hb : BlockInv s) (h : SerializerInv s) (m : Move s ev t) : SerializerInv t := by
  cases m with
  | idle | wait => exact h
  | bit => exact serializerInv_shiftBit (s := s.sampled) h
  | select _ hf =>
    have start := (hb.selectClean hf).1
    simp [SerializerInv, start]
  | _ => simp [SerializerInv]

/-! ### The wire (R144, R154) -/

/-- The bits shifted out so far, followed by the next one. -/
theorem wireInv_shiftBit (selected : s.sel = true) (hs : SerializerInv s) (h : WireInv s) (hf : s.fsm = .shift)
    (hp : s.pos < 32) : WireInv s.shiftBit := by
  have opened : (traceView s.trace).current = some (firstBits s.frame s.pos) := by simpa [WireInv, selected] using h
  simp only [WireInv, State.shiftBit_trace, shiftByte_top hs hf hp]
  simp [selected, opened, firstBits_succ]

theorem wireInv_of_move (hb : BlockInv s) (hs : SerializerInv s) (h : WireInv s) (m : Move s ev t) :
    WireInv t := by
  cases m with
  | idle | wait | complete | fail => exact h
  | bit _ hf _ hp => exact wireInv_shiftBit (s := s.sampled) (hb.selectedIff.mpr (.inl hf)) hs h hf hp
  | reset => cases hsel : s.sel <;> simp_all [WireInv]
  | accept _ _ hf =>
    have deselected : s.sel = false := by simpa [hf] using hb.selectedIff
    simpa [WireInv, deselected] using h
  | select _ hf =>
    have start := (hb.selectClean hf).1
    simp [WireInv, start]
  | releaseNext | releaseEnd => simp [WireInv]

/-! ### All of them -/

theorem inv_of_move (h : Inv s) (m : Move s ev t) : Inv t where
  block := blockInv_of_move h.block m
  status := statusInv_of_move h.status m
  serializer := serializerInv_of_move h.block h.serializer m
  wire := wireInv_of_move h.block h.serializer h.wire m

/-- Settles O45: each move keeps each part. -/
theorem invariantKept : Obligations.InvariantKept := by
  intro s t h hstep
  obtain ⟨ev, m⟩ := exists_move_of_step hstep
  exact inv_of_move h m

/-! ### Reset and construction (R22, R28, R300) -/

/-- Settles O41: the values are those State.reset is written with. -/
theorem resetValues : Obligations.ResetValues := ⟨rfl, rfl, rfl, rfl, rfl, rfl, rfl⟩

theorem construct_bits (r : Resolution) : construct r.bits = .next { State.reset with res := r } := by
  cases r <;> rfl

theorem construct_of_ne {bits : Nat} (h12 : bits ≠ 12) (h14 : bits ≠ 14) (h16 : bits ≠ 16) :
    construct bits = .refused (.unsupportedResolution bits) := by
  have unnamed : resolutionOfBits bits = none := by
    unfold resolutionOfBits
    split
    case h_1 => exact absurd rfl h12
    case h_2 => exact absurd rfl h14
    case h_3 => exact absurd rfl h16
    case h_4 => rfl
  simp [construct, unnamed]

/-- Settles O42: the three numbers each name their resolution, and no other number does. -/
theorem constructionTakesThreeResolutions : Obligations.ConstructionTakesThreeResolutions :=
  ⟨construct_bits, fun _ => construct_of_ne⟩

/-- A constructed block is the reset block of some resolution. -/
theorem construct_next {bits : Nat} (h : construct bits = .next s) :
    ∃ r, s = { State.reset with res := r } := by
  unfold construct at h
  split at h
  case h_1 r _ => exact ⟨r, (Host.Outcome.next.inj h).symm⟩
  case h_2 => cases h

/-- An idle, deselected block with a clean record and no open transaction meets the invariants, whatever its frame and
shift register hold (R22). -/
theorem inv_of_idle (hf : s.fsm = .idle) (hsel : s.sel = false) (hpos : s.pos = 0) (hq : s.queue = [])
    (hx : s.failed = false) (hw : (traceView s.trace).current = none) : Inv s where
  block := by constructor <;> simp [hf, hsel, hpos, hq, hx]
  status := by constructor <;> simp [hf]
  serializer := by simp [SerializerInv, hf]
  wire := by simp [WireInv, hsel, hw]

/-- Settles O46: reset and construction leave such a block. -/
theorem invariantAtReset : Obligations.InvariantAtReset := by
  refine ⟨inv_of_idle rfl rfl rfl rfl rfl rfl, fun bits s h => ?_⟩
  obtain ⟨r, rfl⟩ := construct_next h
  exact inv_of_idle rfl rfl rfl rfl rfl rfl

/-! ### The select line's events (R33, R24, R153) -/

/-- SelAssert is emitted exactly when the line goes from deasserted to asserted. -/
theorem selAssert_mem_iff (h : BlockInv s) (m : Move s ev t) :
    Event.selAssert ∈ ev ↔ s.sel = false ∧ t.sel = true := by
  have line := h.selectedIff
  cases m with
  | reset => cases hsel : s.sel <;> simp
  | select _ hf => simpa [hf] using line
  | _ => simp_all

/-- SelDeassert is emitted exactly when the line goes from asserted to deasserted. -/
theorem selDeassert_mem_iff (h : BlockInv s) (m : Move s ev t) :
    Event.selDeassert ∈ ev ↔ s.sel = true ∧ t.sel = false := by
  have line := h.selectedIff
  cases m with
  | reset => cases hsel : s.sel <;> simp
  | releaseNext _ hf | releaseEnd _ hf => simpa [hf] using line
  | _ => simp_all

/-- The pin is the line inverted (R24). -/
theorem syncN_eq (s : State) : s.syncN = !s.sel := by
  cases h : s.sel <;> simp [State.syncN, Config.selActiveLevel, h]

/-- Settles O50: the events of each move against the line before and after it. -/
theorem selectEventsFollowTheLine : Obligations.SelectEventsFollowTheLine := by
  intro s t h hstep
  obtain ⟨ev, m⟩ := exists_move_of_step hstep
  rw [m.newEvents_eq]
  exact ⟨selAssert_mem_iff h m, selDeassert_mem_iff h m, by simp [syncN_eq]⟩

end Sys2Proof.Proofs.StateInvariants

/-! The device's side of the write and update operations (10_state.md R36; 42_write_update.md R180 to R188): what their
frames decode to, and what each does to the registers. -/

namespace Sys2Proof.Proofs.DeviceStaging

open Sys2Proof Sys2Proof.Machine

/-! ### The fields of a packed frame (R80, R110) -/

@[simp] theorem cmdField_pack (c a : Nibble) (d : Sample) (f : Nibble) : cmdField (pack c a d f) = c := by
  apply BitVec.eq_of_getLsbD_eq
  intro k hk
  simp [cmdField, getLsbD_pack, hk, show ¬24 + k < 4 by omega, show ¬24 + k < 20 by omega, show 24 + k < 28 by omega]

@[simp] theorem addrField_pack (c a : Nibble) (d : Sample) (f : Nibble) : addrField (pack c a d f) = a := by
  apply BitVec.eq_of_getLsbD_eq
  intro k hk
  simp [addrField, getLsbD_pack, hk, show ¬20 + k < 4 by omega, show 20 + k < 24 by omega]

@[simp] theorem dataField_pack (c a : Nibble) (d : Sample) (f : Nibble) : dataField (pack c a d f) = d := by
  apply BitVec.eq_of_getLsbD_eq
  intro k hk
  simp [dataField, getLsbD_pack, hk, show 4 + k < 20 by omega]

@[simp] theorem addressOf_addrCode (a : ChannelAddress) : addressOf (addrCode a) = a := by
  cases a with
  | chan c => cases c <;> rfl
  | broadcast => rfl

theorem channelCodes_allows_pack (cmd : Nibble) (c : Channel) (d : Sample) (f : Nibble) :
    channelCodes.allows (pack cmd (addrCode (.chan c)) d f) = true := by
  have field : (pack cmd (addrCode (.chan c)) d f).extractLsb' 20 4 = addrCode (.chan c) := addrField_pack ..
  simp only [FieldList.allows, channelCodes, field]
  cases c <;> decide

/-- Packed fields are masked one by one. -/
theorem pack_and (c a c' a' : Nibble) (d d' : Sample) (f f' p : Nibble) :
    pack c a d f &&& (p ++ c' ++ a' ++ d' ++ f') = pack (c &&& c') (a &&& a') (d &&& d') (f &&& f') := by
  change (0#4 ++ c ++ a ++ d ++ f : BitVec (4 + 4 + 4 + 16 + 4)) &&& (p ++ c' ++ a' ++ d' ++ f') = _
  simp only [BitVec.and_append, BitVec.zero_and, pack]

/-- The row mask of writeInput and writeAndUpdate keeps the command and lets the data through; of an address it keeps
the top bit, which no channel has set. -/
theorem pack_and_writeMask (cmd : Nibble) (c : Channel) (d : Sample) :
    pack cmd (addrCode (.chan c)) d 0#4 &&& 0xFF80000F#32 = pack cmd 0#4 0#16 0#4 := by
  have mask : 0xFF80000F#32 = 0xF#4 ++ 0xF#4 ++ 0x8#4 ++ 0#16 ++ 0xF#4 := by decide
  have command : cmd &&& 0xF#4 = cmd := BitVec.and_allOnes
  have address : addrCode (.chan c) &&& 0x8#4 = 0#4 := by cases c <;> decide
  rw [mask, pack_and, command, address, BitVec.and_zero, BitVec.zero_and]

/-! ### The rows of the frames (R92) -/

/-- A row whose masked command is another one does not take the frame. -/
theorem accepts_eq_false_of_cmdField {r : Row} {f : Frame} (h : cmdField f &&& cmdField r.mask ≠ cmdField r.pattern) :
    r.accepts f = false := by
  rw [Bool.eq_false_iff, ne_eq, Row.accepts_iff]
  rintro ⟨masked, -⟩
  exact h (by simpa [cmdField, BitVec.extractLsb'_and] using congrArg cmdField masked)

/-- The first row of a frame is the one that takes it while no row before it does. -/
theorem firstRow_eq {f : Frame} {before after : List Row} {r : Row} (rows : opcodeRows = before ++ r :: after)
    (rejected : ∀ q ∈ before, q.accepts f = false) (accepted : r.accepts f = true) : firstRow f = r.op := by
  have skipped : before.find? (·.accepts f) = none := by simpa using rejected
  simp [firstRow, rows, skipped, accepted]

theorem decode_writeInput (c : Channel) (d : Sample) :
    decode (pack 0b0000#4 (addrCode (.chan c)) d 0#4) = .writeInput (.chan c) d.toNat := by
  have row : firstRow (pack 0b0000#4 (addrCode (.chan c)) d 0#4) = .writeInput := by
    refine firstRow_eq (before := []) rfl (by simp) ?_
    rw [Row.accepts_iff]
    exact ⟨pack_and_writeMask _ c d, by simp [channelCodes_allows_pack]⟩
  rw [decode, row]
  simp [buildInstr]

theorem decode_writeAndUpdate (c : Channel) (d : Sample) :
    decode (pack 0b0011#4 (addrCode (.chan c)) d 0#4) = .writeAndUpdate (.chan c) d.toNat := by
  have row : firstRow (pack 0b0011#4 (addrCode (.chan c)) d 0#4) = .writeAndUpdate := by
    refine firstRow_eq (before := opcodeRows.take 4) rfl (fun q hq => accepts_eq_false_of_cmdField ?_) ?_
    · have others : ∀ q ∈ opcodeRows.take 4, 0b0011#4 &&& cmdField q.mask ≠ cmdField q.pattern := by decide
      simpa using others q hq
    · rw [Row.accepts_iff]
      exact ⟨pack_and_writeMask _ c d, by simp [channelCodes_allows_pack]⟩
  rw [decode, row]
  simp [buildInstr]

theorem decode_updateFrame (a : ChannelAddress) : decode (updateFrame specCodes a) = .update a := by
  cases a with
  | chan c => cases c <;> decide
  | broadcast => decide

theorem decode_writeInputFrame (res : Resolution) (c : Channel) (v : Nat) :
    decode (writeInputFrame specCodes res (.chan c) v) =
      .writeInput (.chan c) (maskSample res (BitVec.ofNat 16 v)).toNat := decode_writeInput c _

theorem decode_writeAndUpdateFrame (res : Resolution) (c : Channel) (v : Nat) :
    decode (writeAndUpdateFrame specCodes res (.chan c) v) =
      .writeAndUpdate (.chan c) (maskSample res (BitVec.ofNat 16 v)).toNat := decode_writeAndUpdate c _

/-- A writeInput frame is never taken for an update sent again after it. -/
theorem writeInputFrame_ne_updateFrame (res : Resolution) (c : Channel) (v : Nat) (a : ChannelAddress) :
    writeInputFrame specCodes res (.chan c) v ≠ updateFrame specCodes a := by
  intro same
  have := congrArg decode same
  simp [decode_writeInputFrame, decode_updateFrame] at this

/-! ### The registers (R36, R188) -/

section
variable {repeated : Frame → Device → Device} {d : Device} {res : Resolution} {c : Channel} {v : Nat}

/-- writeInput not repeated sets one input register (R180). -/
theorem apply_writeInputFrame (h : d.last ≠ some (writeInputFrame specCodes res (.chan c) v)) :
    d.apply repeated (writeInputFrame specCodes res (.chan c) v) =
      { d with
        input := fun c' => if c' = c then some (maskSample res (BitVec.ofNat 16 v)) else d.input c'
        last := some (writeInputFrame specCodes res (.chan c) v) } := by
  simp [Device.apply, h, decode_writeInputFrame, setAt_chan]

/-- update not repeated moves the addressed input registers to the output (R181). -/
theorem apply_updateFrame {a : ChannelAddress} (h : d.last ≠ some (updateFrame specCodes a)) :
    d.apply repeated (updateFrame specCodes a) =
      { d with dac := setAt a d.input d.dac, last := some (updateFrame specCodes a) } := by
  simp [Device.apply, h, decode_updateFrame]

/-- writeAndUpdate not repeated sets both registers of one channel (R182). -/
theorem apply_writeAndUpdateFrame (h : d.last ≠ some (writeAndUpdateFrame specCodes res (.chan c) v)) :
    d.apply repeated (writeAndUpdateFrame specCodes res (.chan c) v) =
      { d with
        input := fun c' => if c' = c then some (maskSample res (BitVec.ofNat 16 v)) else d.input c'
        dac := fun c' => if c' = c then some (maskSample res (BitVec.ofNat 16 v)) else d.dac c'
        last := some (writeAndUpdateFrame specCodes res (.chan c) v) } := by
  simp [Device.apply, h, decode_writeAndUpdateFrame, setAt_chan]

/-- A writeInput not repeated and an update of its channel after it bring the masked value to the output (R188). -/
theorem dac_apply_updateFrame_apply_writeInputFrame {a : ChannelAddress} (addressed : addresses a c = true)
    (h : d.last ≠ some (writeInputFrame specCodes res (.chan c) v)) :
    ((d.apply repeated (writeInputFrame specCodes res (.chan c) v)).apply repeated (updateFrame specCodes a)).dac c =
      some (maskSample res (BitVec.ofNat 16 v)) := by
  have fresh : (d.apply repeated (writeInputFrame specCodes res (.chan c) v)).last ≠
      some (updateFrame specCodes a) := by
    simpa using writeInputFrame_ne_updateFrame res c v a
  rw [apply_updateFrame fresh]
  simp [setAt, addressed, apply_writeInputFrame h]

end

/-- Settles O59, from what each of the three frames does to the registers. -/
theorem deviceStagesThenUpdates : Obligations.DeviceStagesThenUpdates := by
  intro repeated d res c v _
  have moved : setAt (.chan c) d.input d.dac = fun c' => if c' = c then d.input c else d.dac c' := by
    rw [setAt_chan]
    funext c'
    split
    case isTrue same => rw [same]
    case isFalse => rfl
  refine ⟨_, _, _, _, rfl, rfl, rfl, rfl, apply_writeInputFrame, fun h => ?_, fun h => ?_, apply_writeAndUpdateFrame,
    fun h => ⟨dac_apply_updateFrame_apply_writeInputFrame (by simp [addresses]) h,
      dac_apply_updateFrame_apply_writeInputFrame rfl h⟩, fun f h => Device.apply_repeated h⟩
  · rw [apply_updateFrame h, moved]
  · rw [apply_updateFrame h, setAt_broadcast]

end Sys2Proof.Proofs.DeviceStaging

/-! The wire order of a frame (20_memory.md R60, R61): the bits of a transaction by their event number, the data field
among them. -/

namespace Sys2Proof.Proofs.WireOrder

open Sys2Proof Sys2Proof.Machine Sys2Proof.Proofs.RequestTraces

/-- Event `k` of a transaction carries frame bit `31 - k` (R60). -/
theorem getElem?_firstBits (f : Frame) {k n : Nat} (h : k < n) :
    (firstBits f n)[k]? = some (f.getLsbD (31 - k)) := by
  simp [firstBits, h]

/-- Data bit `j` stands at frame bit `4 + j` (R80, R110). -/
theorem getLsbD_pack_data (cmd addr : Nibble) (data : Sample) (feat : Nibble) {j : Nat} (h : j < 16) :
    (pack cmd addr data feat).getLsbD (4 + j) = data.getLsbD j := by
  simp [getLsbD_pack, show 4 + j < 20 by omega]

/-- Settles O12: the bits read back as bytes and frame, and the place of a data bit in the frame gives its event. -/
theorem wireOrder : Obligations.WireOrder := by
  refine ⟨fun f => ⟨bytesOfBits_firstBits f, frameOfBits_firstBits_all f⟩, fun f _ _ h _ => getElem?_firstBits f h,
    fun cmd addr data feat j h => ?_⟩
  have place : 31 - (12 + j) = 4 + (15 - j) := by omega
  rw [getElem?_firstBits _ (by omega), place, getLsbD_pack_data _ _ _ _ (by omega)]

end Sys2Proof.Proofs.WireOrder

/-! The end of a request (20_memory.md R72; 41_bus_transaction.md R148, R152): of the moves without a reset, only the
release that ends the request emits Done, and only it brings a busy block to IDLE. -/

namespace Sys2Proof.Proofs.RequestEnd

open Sys2Proof Sys2Proof.Machine Sys2Proof.Proofs.StepMoves

variable {s t : State} {ev : List Event}

/-- A request never ends without a result (R152). -/
theorem endResult_ne_none (failed : Bool) : endResult failed ≠ .none := by
  cases failed <;> simp [endResult]

/-- Without a reset, a move that emits Done is the release that ends the request (R72, R152). -/
theorem eq_releaseEnd_of_isDone (m : Move s ev t) (hr : s.ports.rst = false) (h : ev.any Event.isDone = true) :
    s.fsm = .release ∧ ev = [.selDeassert, .done (endResult s.failed)] ∧ t = s.sampled.releaseEnd := by
  cases m with
  | releaseEnd _ hf => exact ⟨hf, rfl, rfl⟩
  | reset rst => simp [hr] at rst
  | _ => simp [Event.isDone] at h

/-- Without a reset, the end of the request is also the only move from a busy block to IDLE (R148). -/
theorem isDone_of_busy_of_idle (m : Move s ev t) (hr : s.ports.rst = false) (hs : s.fsm ≠ .idle)
    (ht : t.fsm = .idle) : ev.any Event.isDone = true := by
  cases m with
  | releaseEnd => simp [Event.isDone]
  | reset rst => simp [hr] at rst
  | accept _ _ hf | idle _ hf => exact absurd hf hs
  | select | releaseNext | complete | fail => simp at ht
  | wait _ hf | bit _ hf => simp [hf] at ht

/-- Settles O51: the step that emits Done is the release that ends the request. -/
theorem doneEndsTheRequest : Obligations.DoneEndsTheRequest := by
  intro s t hstep hr
  obtain ⟨ev, m⟩ := exists_move_of_step hstep
  rw [donePulse, dinBit, m.newEvents_eq]
  refine ⟨⟨fun h => ?_, fun ⟨hs, ht⟩ => isDone_of_busy_of_idle m hr hs ht⟩, fun h => ?_⟩
  all_goals obtain ⟨hf, rfl, rfl⟩ := eq_releaseEnd_of_isDone m hr h
  · simp [hf]
  · simp [Event.bit?, endResult_ne_none]

end Sys2Proof.Proofs.RequestEnd

/-! Every frame as a request (30_encoding.md R92; 44_raw.md R240, R245): a frame of a row is the row's pattern with its
free fields filled in, and the request the row names for those fields packs them again. -/

namespace Sys2Proof.Proofs.FrameDecoding

open Sys2Proof Sys2Proof.Machine Sys2Proof.Proofs.DeviceStaging

variable {f mask pattern : Frame}

/-! ### The fields a row leaves free -/

/-- A frame that holds a field from bit `lo` up and zeros elsewhere. -/
def placed {w : Nat} (lo : Nat) (x : BitVec w) : Frame := x.setWidth 32 <<< lo

theorem getLsbD_placed {w : Nat} (lo : Nat) (x : BitVec w) {k : Nat} (hk : k < 32) :
    (placed lo x).getLsbD k = (decide (lo ≤ k) && x.getLsbD (k - lo)) := by
  simp [placed, hk, ← decide_not]

/-- Masking a frame down to one field leaves that field in its place. -/
theorem and_placed_allOnes (f : Frame) (lo w : Nat) :
    f &&& placed lo (BitVec.allOnes w) = placed lo (f.extractLsb' lo w) := by
  apply BitVec.eq_of_getLsbD_eq
  intro k hk
  rw [BitVec.getLsbD_and, getLsbD_placed lo _ hk, getLsbD_placed lo _ hk]
  by_cases h : lo ≤ k
  case pos => simp [h, Bool.and_comm]
  case neg => simp [h]

/-- A frame of a row is the row's pattern and what the frame holds in the bits the mask leaves free (R92). -/
theorem eq_pattern_or_free (free : Frame) (h : f &&& mask = pattern)
    (cover : mask ||| free = BitVec.allOnes 32) : f = pattern ||| f &&& free := by
  rw [← h, ← BitVec.and_or_distrib_left, cover, BitVec.and_allOnes]

theorem eq_pattern_or_placed (lo w : Nat) (h : f &&& mask = pattern)
    (cover : mask ||| placed lo (BitVec.allOnes w) = BitVec.allOnes 32) :
    f = pattern ||| placed lo (f.extractLsb' lo w) := by
  simpa only [and_placed_allOnes] using eq_pattern_or_free _ h cover

theorem eq_pattern_or_placed_placed (lo w lo' w' : Nat) (h : f &&& mask = pattern)
    (cover : mask ||| (placed lo (BitVec.allOnes w) ||| placed lo' (BitVec.allOnes w')) = BitVec.allOnes 32) :
    f = pattern ||| (placed lo (f.extractLsb' lo w) ||| placed lo' (f.extractLsb' lo' w')) := by
  simpa only [BitVec.and_or_distrib_left, and_placed_allOnes] using eq_pattern_or_free _ h cover

/-- Packing puts the command, the address and the data each in its place (R110). -/
theorem pack_eq_placed (cmd addr : Nibble) (data : Sample) :
    pack cmd addr data 0#4 = placed 24 cmd ||| (placed 20 addr ||| placed 4 data) := by
  apply BitVec.eq_of_getLsbD_eq
  intro k hk
  simp only [getLsbD_pack, BitVec.getLsbD_or, getLsbD_placed _ _ hk]
  interval_cases k <;> simp

/-- A frame with its address and data free and its other bits those of a command is the command packed with them. -/
theorem pack_addrField_dataField {cmd : Nibble} (h : f &&& mask = placed 24 cmd)
    (cover : mask ||| (placed 20 (BitVec.allOnes 4) ||| placed 4 (BitVec.allOnes 16)) = BitVec.allOnes 32) :
    pack cmd (addrField f) (dataField f) 0#4 = f :=
  (pack_eq_placed _ _ _).trans (eq_pattern_or_placed_placed 20 4 4 16 h cover).symm

/-! ### The codes a row lists (R112) -/

theorem addrCode_addressOf (h : addressCodes.allows f = true) :
    addrCode (addressOf (addrField f)) = addrField f := by
  have codes : ∀ x : Nibble, addressCodes.values.contains x.toNat = true → addrCode (addressOf x) = x := by decide
  exact codes _ h

/-- A channel code is the code of a channel. -/
theorem checkChannel_addressOf (h : channelCodes.allows f = true) :
    checkChannel (addressOf (addrField f)) = none ∧ addrCode (addressOf (addrField f)) = addrField f := by
  have codes : ∀ x : Nibble, channelCodes.values.contains x.toNat = true →
      checkChannel (addressOf x) = none ∧ addrCode (addressOf x) = x := by decide
  exact codes _ h

@[simp] theorem checkSample_toNat (v : Sample) : checkSample v.toNat = none :=
  (checkSample_eq_none_iff _).mpr v.isLt

@[simp] theorem checkRaw_toNat {w : Nat} (v : BitVec w) : checkRaw w v.toNat = none :=
  (checkRaw_eq_none_iff _ _).mpr v.isLt

@[simp] theorem maskSample_r16 (v : Sample) : maskSample .r16 v = v := BitVec.and_allOnes

/-! ### The request of each row sends the frame (R92) -/

/-- A request that is well formed and sends exactly the frame at 16 bits. -/
def Sends (i : Instr) (f : Frame) : Prop := i.WellFormed ∧ encode .r16 i = [f]

theorem sends_writeInput (h : f &&& 0xFF80000F#32 = 0x00000000#32) (a : channelCodes.allows f = true) :
    Sends (.writeInput (addressOf (addrField f)) (dataField f).toNat) f := by
  obtain ⟨isChannel, code⟩ := checkChannel_addressOf a
  have frame : pack 0b0000#4 (addrField f) (dataField f) 0#4 = f := pack_addrField_dataField h (by decide)
  exact ⟨by simp [Instr.WellFormed, Instr.illTyped, isChannel],
    by simp [encode, encodeWith, writeInputFrame, specCodes, cmdCode, code, frame]⟩

theorem sends_writeAndUpdate (h : f &&& 0xFF80000F#32 = 0x03000000#32) (a : channelCodes.allows f = true) :
    Sends (.writeAndUpdate (addressOf (addrField f)) (dataField f).toNat) f := by
  obtain ⟨isChannel, code⟩ := checkChannel_addressOf a
  have frame : pack 0b0011#4 (addrField f) (dataField f) 0#4 = f := pack_addrField_dataField h (by decide)
  exact ⟨by simp [Instr.WellFormed, Instr.illTyped, isChannel],
    by simp [encode, encodeWith, writeAndUpdateFrame, specCodes, cmdCode, code, frame]⟩

theorem sends_writeInputUpdateAll (h : f &&& 0xFFF0000F#32 = 0x02F00000#32) :
    Sends (.writeInputUpdateAll (dataField f).toNat) f := by
  have frame : f = 0x02F00000#32 ||| placed 4 (dataField f) := eq_pattern_or_placed 4 16 h (by decide)
  have packed : pack 0b0010#4 0b1111#4 (dataField f) 0#4 = f := by
    rw [pack_eq_placed, ← BitVec.or_assoc]
    exact frame.symm
  exact ⟨checkSample_toNat _,
    by simp [encode, encodeWith, writeInputUpdateAllFrame, specCodes, cmdCode, addrCode, packed]⟩

theorem sends_update (h : f &&& 0xFF0FFFFF#32 = 0x01000000#32) (a : addressCodes.allows f = true) :
    Sends (.update (addressOf (addrField f))) f := by
  have filled : ∀ x : Nibble, addressCodes.values.contains x.toNat = true →
      updateFrame specCodes (addressOf x) = 0x01000000#32 ||| placed 20 x := by decide
  exact ⟨rfl, List.singleton_inj.mpr ((filled _ a).trans (eq_pattern_or_placed 20 4 h (by decide)).symm)⟩

theorem sends_setPowerMode (h : f &&& 0xFF0FFCFF#32 = 0x04000000#32) (a : addressCodes.allows f = true) :
    Sends (.setPowerMode (addressOf (addrField f)) (powerModeOf (f.extractLsb' 8 2))) f := by
  have filled : ∀ (x : Nibble) (p : BitVec 2), addressCodes.values.contains x.toNat = true →
      setPowerModeFrame specCodes (addressOf x) (powerModeOf p) =
        0x04000000#32 ||| (placed 20 x ||| placed 8 p) := by decide
  exact ⟨rfl, List.singleton_inj.mpr
    ((filled _ _ a).trans (eq_pattern_or_placed_placed 20 4 8 2 h (by decide)).symm)⟩

theorem sends_setClearCode (h : f &&& 0xFFFFFFF3#32 = 0x05000000#32) :
    Sends (.setClearCode (clearCodeOf (f.extractLsb' 2 2))) f := by
  have filled : ∀ k : BitVec 2,
      setClearCodeFrame specCodes (clearCodeOf k) = 0x05000000#32 ||| placed 2 k := by decide
  exact ⟨rfl, List.singleton_inj.mpr ((filled _).trans (eq_pattern_or_placed 2 2 h (by decide)).symm)⟩

theorem sends_setReferenceModeStatic (h : f &&& 0xFFFFFFFE#32 = 0x08000000#32) :
    Sends (.setReferenceModeStatic (staticOf (f.extractLsb' 0 1))) f := by
  have filled : ∀ e : BitVec 1,
      staticReferenceFrame specCodes (staticOf e) = 0x08000000#32 ||| placed 0 e := by decide
  exact ⟨rfl, List.singleton_inj.mpr ((filled _).trans (eq_pattern_or_placed 0 1 h (by decide)).symm)⟩

/-- The flex submode 0b11 is in no row (R116), so a code the row lists is one that `flexOf` names. -/
theorem sends_setReferenceModeFlex (h : f &&& 0xFFF9FFFF#32 = 0x08180000#32)
    (a : (⟨17, 2, [0, 1, 2]⟩ : FieldList).allows f = true) :
    Sends (.setReferenceModeFlex (flexOf (f.extractLsb' 17 2))) f := by
  have filled : ∀ x : BitVec 2, [0, 1, 2].contains x.toNat = true →
      flexReferenceFrame specCodes (flexOf x) = 0x08180000#32 ||| placed 17 x := by decide
  exact ⟨rfl, List.singleton_inj.mpr ((filled _ a).trans (eq_pattern_or_placed 17 2 h (by decide)).symm)⟩

theorem sends_sendRawFrame (h : topField f = 0b0000#4) :
    Sends (.sendRawFrame (cmdField f).toNat (addrField f).toNat (dataField f).toNat (featField f).toNat) f :=
  ⟨by simp [Instr.WellFormed, Instr.illTyped], by simp [encode, encodeWith, rawFrame, pack_fields h]⟩

theorem sends_sendRawBytes (f : Frame) :
    Sends (.sendRawBytes (byteOf f 0).toNat (byteOf f 1).toNat (byteOf f 2).toNat (byteOf f 3).toNat) f :=
  ⟨by simp [Instr.WellFormed, Instr.illTyped], by simp [encode, encodeWith, rawBytesFrame, frameOfBytes_byteOf]⟩

/-! ### The top nibble and the rows (R92, R126) -/

/-- A row but the last takes only frames with the top nibble 0000. -/
theorem topField_of_accepts {r : Row} (hr : r ∈ opcodeRows.take 12) (h : r.accepts f = true) :
    topField f = 0b0000#4 := by
  have top : ∀ r ∈ opcodeRows.take 12, topField r.mask = BitVec.allOnes 4 ∧ topField r.pattern = 0b0000#4 := by
    decide
  obtain ⟨whole, zero⟩ := top r hr
  have masked : topField f &&& topField r.mask = topField r.pattern := by
    simpa only [topField, BitVec.extractLsb'_and] using congrArg topField ((Row.accepts_iff r f).mp h).1
  rwa [whole, zero, BitVec.and_allOnes] at masked

/-- The row of sendRawFrame takes every frame with the top nibble 0000. -/
theorem accepts_sendRawFrame (h : topField f = 0b0000#4) :
    (⟨.sendRawFrame, 0xF0000000, 0x00000000, []⟩ : Row).accepts f = true := by
  rw [Row.accepts_iff]
  refine ⟨?_, rfl⟩
  calc f &&& 0xF0000000#32
    _ = placed 28 (topField f) := and_placed_allOnes f 28 4
    _ = 0x00000000#32 := by rw [h]; rfl

/-- If a row of the table's front takes the frame, the frame's first row is in that front. -/
theorem exists_firstRow {front back : List Row} (rows : opcodeRows = front ++ back) {q : Row} (hq : q ∈ front)
    (taken : q.accepts f = true) : ∃ r ∈ front, r.accepts f = true ∧ firstRow f = r.op := by
  obtain ⟨r, found⟩ := Option.isSome_iff_exists.mp (List.find?_isSome (p := (Row.accepts · f)).mpr ⟨q, hq, taken⟩)
  exact ⟨r, List.mem_of_find?_eq_some found, List.find?_some (p := (Row.accepts · f)) found,
    by simp [firstRow, rows, found]⟩

/-- Each row in the table's order; two of them leave no field free. -/
theorem sends_of_accepts {r : Row} (hr : r ∈ opcodeRows) (h : r.accepts f = true) : Sends (buildInstr r.op f) f := by
  obtain ⟨masked, listed⟩ := (Row.accepts_iff r f).mp h
  fin_cases hr
  all_goals simp only [List.all_cons, List.all_nil, Bool.and_true, Bool.and_eq_true] at listed
  · exact sends_writeInput masked listed
  · exact sends_writeInput masked listed
  · exact sends_update masked listed
  · exact ⟨rfl, List.singleton_inj.mpr (masked.symm.trans BitVec.and_allOnes)⟩
  · exact sends_writeAndUpdate masked listed
  · exact sends_writeInputUpdateAll masked
  · exact sends_setPowerMode masked listed.1
  · exact sends_setClearCode masked
  · exact ⟨rfl, List.singleton_inj.mpr (masked.symm.trans BitVec.and_allOnes)⟩
  · exact sends_setReferenceModeStatic masked
  · exact sends_setReferenceModeFlex masked listed
  · exact sends_sendRawFrame (topField_of_accepts (by simp [opcodeRows]) h)
  · exact sends_sendRawBytes f

/-- The last row takes every frame, so every frame has a first row. -/
theorem sends_decode (f : Frame) : Sends (decode f) f := by
  obtain ⟨r, hr, taken, row⟩ := exists_firstRow (f := f) (q := ⟨.sendRawBytes, 0x00000000, 0x00000000, []⟩)
    (List.append_nil opcodeRows).symm (by simp [opcodeRows]) ((Row.accepts_iff _ f).mpr ⟨BitVec.and_zero, rfl⟩)
  rw [decode, row]
  exact sends_of_accepts hr taken

/-- Settles O9: every frame has a first row, and the request of each row sends the frames the row takes. -/
theorem everyFrameIsSomeRequest : Obligations.EveryFrameIsSomeRequest := sends_decode

/-! ### Frames of no typed operation (R92) -/

theorem firstRow_eq_sendRawBytes (h : topField f ≠ 0b0000#4) : firstRow f = .sendRawBytes := by
  refine firstRow_eq (before := opcodeRows.take 12) rfl (fun q hq => ?_)
    ((Row.accepts_iff _ f).mpr ⟨BitVec.and_zero, rfl⟩)
  exact Bool.eq_false_iff.mpr fun taken => h (topField_of_accepts hq taken)

theorem firstRow_ne_sendRawBytes (h : topField f = 0b0000#4) : firstRow f ≠ .sendRawBytes := by
  have front : ∀ r ∈ opcodeRows.take 12, r.op ≠ .sendRawBytes := by decide
  obtain ⟨r, hr, -, row⟩ := exists_firstRow (List.take_append_drop 12 opcodeRows).symm
    (by simp [opcodeRows]) (accepts_sendRawFrame h)
  exact row ▸ front r hr

/-- A row other than the two raw ones reads as a typed request. -/
theorem typed_buildInstr {op : OpRow} (frame : op ≠ .sendRawFrame) (bytes : op ≠ .sendRawBytes) :
    (buildInstr op f).typed = true := by
  cases op with
  | sendRawFrame => exact absurd rfl frame
  | sendRawBytes => exact absurd rfl bytes
  | _ => rfl

/-- Settles O10: a nonzero top nibble leaves only the last row; with 0000 a row before it takes the frame, and a
typed row would make the decoded request a typed one that sends the frame. -/
theorem untypedFramesDecodeRaw : Obligations.UntypedFramesDecodeRaw := by
  refine ⟨fun f h => ?_, fun f h untyped => ?_⟩
  · rw [decode, firstRow_eq_sendRawBytes h]
    rfl
  · obtain ⟨wellFormed, frames⟩ := sends_decode f
    have row : firstRow f = .sendRawFrame := by
      by_contra other
      exact untyped _ (typed_buildInstr other (firstRow_ne_sendRawBytes h)) wellFormed frames
    rw [decode, row]
    rfl

/-- Settles O11, by evaluating the decoder on the five words. -/
theorem decodedWords : Obligations.DecodedWords :=
  ⟨by decide, by decide, by decide, by decide, by decide⟩

/-! ### The bytes of a packed frame (R81) -/

/-- Settles O2: each byte bit by bit, from the places of the fields' bits in the frame. -/
theorem packedBytes : Obligations.PackedBytes := by
  intro cmd addr data feat
  simp only [bytesOf, List.cons.injEq]
  refine ⟨?_, ?_, ?_, ?_, trivial⟩
  all_goals
    apply BitVec.eq_of_getLsbD_eq
    intro k hk
    simp only [byteOf, getLsbD_pack, BitVec.getLsbD_append, BitVec.getLsbD_extractLsb']
    interval_cases k <;> simp

end Sys2Proof.Proofs.FrameDecoding

/-! The requests the block refuses (30_encoding.md R89; 00_scope.md R15): in IDLE a request is refused for the reason
its check names, and accepted if the check names none. -/

namespace Sys2Proof.Proofs.RequestChecks

open Sys2Proof Sys2Proof.Machine

variable {s : State} {i : Instr}

/-- An ill-typed request presented in IDLE is refused with its reason (R15, R89). -/
theorem exec_of_illTyped {why : IllTyped} (hs : s.fsm = .idle) (h : i.illTyped = some why) :
    exec i s = .refused (.illTyped why) := by
  simp [exec_eq_acceptRequest, acceptRequest, hs, h]

/-- A well-formed request presented in IDLE is accepted with its frames (R140). -/
theorem exec_of_wellFormed (hs : s.fsm = .idle) (h : i.WellFormed) :
    exec i s = .next (s.latch (encode s.res i)) := by
  simp [exec_eq_acceptRequest, acceptRequest, hs, show i.illTyped = none from h]

/-! ### What the checks of the operands answer (R89) -/

theorem checkSample_of_le {v : Nat} (h : 2 ^ 16 ≤ v) : checkSample v = some .valueTooWide :=
  if_neg (by omega)

theorem checkSamples_of_length_ne {vs : List Nat} (h : vs.length ≠ 8) : checkSamples vs = some .wrongListLength :=
  if_neg h

theorem checkSamples_of_mem {vs : List Nat} {v : Nat} (length : vs.length = 8) (hv : v ∈ vs) (wide : 2 ^ 16 ≤ v) :
    checkSamples vs = some .valueTooWide := by
  have fails : ¬ vs.all (· < 2 ^ 16) = true := by
    rw [List.all_eq_true]
    intro fit
    have := of_decide_eq_true (fit v hv)
    omega
  exact (if_pos length).trans (if_neg fails)

/-- Two checks with the same reason are one check of both conditions. -/
theorem ite_or_ite (p q : Prop) [Decidable p] [Decidable q] (why : IllTyped) :
    (if p then none else some why).or (if q then none else some why) = if p ∧ q then none else some why := by
  by_cases p <;> by_cases q <;> simp [*]

theorem illTyped_sendRawFrame {c a d f : Nat} (h : 2 ^ 4 ≤ c ∨ 2 ^ 4 ≤ a ∨ 2 ^ 16 ≤ d ∨ 2 ^ 4 ≤ f) :
    (Instr.sendRawFrame c a d f).illTyped = some .rawOperandTooWide := by
  simp only [Instr.illTyped, checkRaw, ite_or_ite]
  exact if_neg (by omega)

theorem illTyped_sendRawBytes {b0 b1 b2 b3 : Nat} (h : 2 ^ 8 ≤ b0 ∨ 2 ^ 8 ≤ b1 ∨ 2 ^ 8 ≤ b2 ∨ 2 ^ 8 ≤ b3) :
    (Instr.sendRawBytes b0 b1 b2 b3).illTyped = some .rawOperandTooWide := by
  simp only [Instr.illTyped, checkRaw, ite_or_ite]
  exact if_neg (by omega)

/-- Settles O26, from the reason the check of each operation's operands names. -/
theorem illTypedRequestsRefused : Obligations.IllTypedRequestsRefused := by
  intro s hs
  refine ⟨fun v => ⟨?_, ?_⟩, fun c v wide => ⟨?_, ?_, ?_⟩, fun vs length => ?_, fun vs v length hv wide => ?_,
    fun c a d f wide => ?_, fun b0 b1 b2 b3 wide => ?_, fun i wellFormed => ⟨_, exec_of_wellFormed hs wellFormed⟩⟩
  all_goals apply exec_of_illTyped hs
  · rfl
  · rfl
  · exact checkSample_of_le wide
  · exact checkSample_of_le wide
  · exact checkSample_of_le wide
  · exact checkSamples_of_length_ne length
  · exact checkSamples_of_mem length hv wide
  · exact illTyped_sendRawFrame wide
  · exact illTyped_sendRawBytes wide

end Sys2Proof.Proofs.RequestChecks

/-! The fields of the frames a request is sent as and the resolution mask on its samples (40_frame_encoder.md R110,
R118, R119, R126). -/

namespace Sys2Proof.Proofs.FrameFields

open Sys2Proof Sys2Proof.Machine Sys2Proof.Proofs.DeviceStaging Sys2Proof.Proofs.FrameDecoding

/-! ### The fields of a packed frame (R110) -/

@[simp] theorem topField_pack (c a : Nibble) (d : Sample) (f : Nibble) : topField (pack c a d f) = 0b0000#4 := by
  apply BitVec.eq_of_getLsbD_eq
  intro k hk
  simp [topField, getLsbD_pack, show ¬28 + k < 4 by omega, show ¬28 + k < 20 by omega, show ¬28 + k < 24 by omega]

@[simp] theorem featField_pack (c a : Nibble) (d : Sample) (f : Nibble) : featField (pack c a d f) = f := by
  apply BitVec.eq_of_getLsbD_eq
  intro k hk
  simp [featField, getLsbD_pack, hk]

/-- Settles O1, field by field. -/
theorem packPlacesFields : Obligations.PackPlacesFields := fun _ _ _ _ =>
  ⟨topField_pack .., cmdField_pack .., addrField_pack .., dataField_pack .., featField_pack ..⟩

/-! ### The prefix of a request's frames (R126) -/

theorem topField_of_mem_writeAllFrames {k : Codes} {res : Resolution} {vs : List Nat} {f : Frame}
    (hf : f ∈ writeAllFrames k res vs) : topField f = 0b0000#4 := by
  rw [writeAllFrames, ← List.map_uncurry_zip_eq_zipWith, List.mem_map] at hf
  obtain ⟨_, -, rfl⟩ := hf
  exact topField_pack ..

/-- Every operation but sendRawBytes packs its frames, whatever the code tables. -/
theorem topField_of_mem_encodeWith {k : Codes} {res : Resolution} {i : Instr} {f : Frame}
    (hf : f ∈ encodeWith k res i) (hi : ∀ b0 b1 b2 b3, i ≠ .sendRawBytes b0 b1 b2 b3) : topField f = 0b0000#4 := by
  cases i with
  | sendRawBytes b0 b1 b2 b3 => exact absurd rfl (hi b0 b1 b2 b3)
  | writeAllChannels vs => exact topField_of_mem_writeAllFrames hf
  | _ =>
    obtain rfl := List.mem_singleton.mp hf
    exact topField_pack ..

/-- Settles O4: the other operations pack their frames, and sendRawBytes of a frame's bytes sends that frame at every
resolution, whatever its prefix. -/
theorem onlyRawBytesSetThePrefix : Obligations.OnlyRawBytesSetThePrefix := by
  refine ⟨fun k res i f hf hi => topField_of_mem_encodeWith hf hi, fun res p => ?_⟩
  obtain ⟨wellFormed, frames⟩ := sends_sendRawBytes (p ++ 0#28)
  exact ⟨_, _, wellFormed, frames, BitVec.extractLsb'_append_eq_left⟩

/-! ### The resolution mask (R118) -/

/-- The mask keeps bit `k` exactly when it is one of the top RES bits. -/
theorem getLsbD_maskSample (res : Resolution) (v : Sample) (k : Nat) :
    (maskSample res v).getLsbD k = (v.getLsbD k && decide (16 - res.bits ≤ k)) := by
  have ones : resMask res = BitVec.allOnes 16 <<< (16 - res.bits) := rfl
  rw [maskSample, ones, BitVec.getLsbD_and, BitVec.getLsbD_shiftLeft, BitVec.getLsbD_allOnes]
  by_cases hk : k < 16
  · simp [hk, show k - (16 - res.bits) < 16 by omega, ← decide_not]
  · simp [BitVec.getLsbD_of_ge v k (by omega)]

/-- Settles O3: the three masks by evaluation, the law of a bit from the mask's shift. -/
theorem maskKeepsTopBits : Obligations.MaskKeepsTopBits :=
  ⟨by decide, by decide, by decide, maskSample_r16, getLsbD_maskSample⟩

/-! ### Sample operations on a masked sample (R119) -/

/-- Masking a masked sample changes nothing. -/
@[simp] theorem maskSample_maskSample (res : Resolution) (v : Sample) :
    maskSample res (maskSample res v) = maskSample res v := by
  simp [maskSample, BitVec.and_assoc]

/-- Requests with the same check and the same frames are answered alike. -/
theorem exec_congr {s : State} {i j : Instr} (check : i.illTyped = j.illTyped)
    (frames : encode s.res i = encode s.res j) : exec i s = exec j s := by
  rw [exec_eq_acceptRequest, exec_eq_acceptRequest, check, frames]

/-- Of a list of samples only the length is checked (R89). -/
theorem checkSamples_map_toNat (vs : List Sample) :
    checkSamples (vs.map BitVec.toNat) = if vs.length = 8 then none else some .wrongListLength := by
  have fit : (vs.map BitVec.toNat).all (· < 2 ^ 16) = true := by
    simpa using fun v (_ : v ∈ vs) => v.isLt
  simp only [checkSamples, fit, List.length_map, Config.nch, if_true]

theorem writeAllFrames_map_maskSample (k : Codes) (res : Resolution) (vs : List Sample) :
    writeAllFrames k res ((vs.map (maskSample res)).map BitVec.toNat) =
      writeAllFrames k res (vs.map BitVec.toNat) := by
  simp [writeAllFrames, writeInputFrame, List.zipWith_map_right]

theorem exec_writeAllChannels_map_maskSample (s : State) (vs : List Sample) :
    exec (.writeAllChannels ((vs.map (maskSample s.res)).map BitVec.toNat)) s =
      exec (.writeAllChannels (vs.map BitVec.toNat)) s := by
  refine exec_congr ?_ (writeAllFrames_map_maskSample specCodes s.res vs)
  simp only [Instr.illTyped, checkSamples_map_toNat, List.length_map]

/-- Settles O5: a sample and its masked sample both pass the check, and masking is idempotent, so the frames are the
same. -/
theorem maskingIsSilent : Obligations.MaskingIsSilent := by
  intro s c v vs
  refine ⟨exec_congr ?_ ?_, exec_congr ?_ ?_, exec_congr ?_ ?_, ?_⟩
  · simp [Instr.illTyped]
  · simp [encode, encodeWith, writeInputFrame]
  · simp [Instr.illTyped]
  · simp [encode, encodeWith, writeAndUpdateFrame]
  · simp [Instr.illTyped]
  · simp [encode, encodeWith, writeInputUpdateAllFrame]
  · simpa [Function.comp_def] using (exec_writeAllChannels_map_maskSample s vs).symm

end Sys2Proof.Proofs.FrameFields

/-! One rule per move, from its guard to the step it is (41_bus_transaction.md R140 to R160), and what each says of the
fields of the next state. -/

namespace Sys2Proof.Proofs.StepRules

open Sys2Proof Sys2Proof.Machine Sys2Proof.Proofs.StepMoves Sys2Proof.Proofs.StateInvariants
  Sys2Proof.Proofs.RequestChecks

variable {s t : State} {ev : List Event} {i : Instr}

/-! ### The rules -/

/-- A ready block runs what it is presented, after the ports are sampled (R140, R34). -/
theorem step_of_req (hf : s.fsm = .idle) (hr : s.ports.rst = false) (hq : s.ports.req = some i) :
    step s = exec i s.sampled := by
  simp [step, hr, State.requestTaken, hf, hq]

theorem step_accept (hf : s.fsm = .idle) (hr : s.ports.rst = false) (hq : s.ports.req = some i)
    (hw : i.WellFormed) : step s = .next (s.sampled.latch (encode s.res i)) :=
  (step_of_req hf hr hq).trans (exec_of_wellFormed hf hw)

theorem step_idle (hf : s.fsm = .idle) (hr : s.ports.rst = false) (hq : s.ports.req = none) :
    step s = .next s.sampled := by
  simp [step, hr, State.requestTaken, hf, hq, blockStep]

theorem step_select (hf : s.fsm = .select) (hr : s.ports.rst = false) : step s = .next s.sampled.selectLine := by
  simp [step_of_busy, hf, hr, blockStep]

theorem step_shift (hf : s.fsm = .shift) (hr : s.ports.rst = false) :
    step s = shiftStep s.ports.verdict s.sampled := by
  simp [step_of_busy, hf, hr, blockStep]

theorem step_wait (hf : s.fsm = .shift) (hr : s.ports.rst = false) (hv : s.ports.verdict = .wait) :
    step s = .next s.sampled := by
  simp [step_shift hf hr, hv, shiftStep]

theorem step_bit (hf : s.fsm = .shift) (hr : s.ports.rst = false) (hv : s.ports.verdict = .go) (hp : s.pos < 32) :
    step s = .next s.sampled.shiftBit := by
  simp [step_shift hf hr, hv, shiftStep, hp]

theorem step_complete (hf : s.fsm = .shift) (hr : s.ports.rst = false) (hv : s.ports.verdict = .go)
    (hp : s.pos = 32) : step s = .next s.sampled.completeFrame := by
  simp [step_shift hf hr, hv, shiftStep, hp]

theorem step_fail (hf : s.fsm = .shift) (hr : s.ports.rst = false) (hv : s.ports.verdict = .fail)
    (hp : s.pos ≤ 32) : step s = .next s.sampled.raiseTransportFailure := by
  simp [step_shift hf hr, hv, shiftStep, hp]

theorem step_release (hf : s.fsm = .release) (hr : s.ports.rst = false) :
    step s = .next s.sampled.releaseLine := by
  simp [step_of_busy, hf, hr, blockStep]

theorem step_releaseNext (hf : s.fsm = .release) (hr : s.ports.rst = false) (hx : s.failed = false)
    (hq : s.queue ≠ []) : step s = .next s.sampled.releaseNext := by
  simp [step_release hf hr, State.releaseLine, hx, hq]

theorem step_releaseEnd (hf : s.fsm = .release) (hr : s.ports.rst = false) (h : s.failed = true ∨ s.queue = []) :
    step s = .next s.sampled.releaseEnd := by
  have ending : ¬(s.sampled.failed = false ∧ s.sampled.queue ≠ []) := by
    rintro ⟨unfailed, more⟩
    exact h.elim (fun failed => by simp [failed] at unfailed) more
  rw [step_release hf hr, State.releaseLine, if_neg ending]

/-! ### Acceptance (R140) -/

/-- A well-formed request has a first frame (R122). -/
theorem exists_encode_eq_cons (hw : i.WellFormed) (res : Resolution) : ∃ f fs, encode res i = f :: fs := by
  have count : (encode res i).length = Laws.FrameCount.frames i := frameCount i hw specCodes res
  have positive : 0 < Laws.FrameCount.frames i := by cases i <;> simp [Laws.FrameCount.frames]
  exact List.exists_cons_of_length_pos (by omega)

/-- Settles O28: a waiting request changes nothing, and latching leaves those fields. -/
theorem acceptanceFrame : Obligations.AcceptanceFrame := by
  intro i s t h
  rw [exec_eq_acceptRequest] at h
  obtain ⟨-, e⟩ | ⟨-, -, e⟩ | ⟨-, _, -, e⟩ := acceptRequest_cases i.illTyped (encode s.res i) s
  all_goals rw [e] at h; cases h
  all_goals exact ⟨rfl, rfl, rfl, rfl, rfl, rfl⟩

/-- Settles O29: withFetchWord places a sample in which the decoded request is presented. -/
theorem stepRunsPresentedRequest : Obligations.StepRunsPresentedRequest :=
  ⟨fun _ _ => step_of_req, fun s nbits w _ h => step_of_req (s := s.withFetchWord nbits w) rfl rfl h⟩

/-- Settles O30, from the rule of acceptance, the refusal of an ill-typed request and the busy step. -/
theorem acceptStep : Obligations.AcceptStep := by
  refine ⟨fun s i hf hr hq hw => ?_, fun s i why hf hr hq hi => ?_, fun s => step_withoutRequest_of_busy, by decide⟩
  · obtain ⟨f, fs, frames⟩ := exists_encode_eq_cons hw s.res
    refine ⟨f, fs, frames, ?_⟩
    rw [step_accept hf hr hq hw, frames]
    rfl
  · rw [step_of_req hf hr hq]
    exact exec_of_illTyped hf hi

/-! ### Select, shift and stutter (R142 to R150, R160) -/

/-- Settles O32: the rule, and the pin is low while the line is asserted. -/
theorem selectStep : Obligations.SelectStep := fun s hf hr =>
  ⟨s.sampled.selectLine, step_select hf hr, syncN_eq _, rfl⟩

/-- Settles O33: the register used is `shiftByte`, whose top bit the serializer's invariant gives. -/
theorem shiftBitStep : Obligations.ShiftBitStep := by
  intro s hf hp hr hv
  refine ⟨s.shiftByte, rfl, fun boundary => ?_, fun h => shiftByte_top h hf hp, step_bit hf hr hv hp⟩
  have start : 8 * (s.pos / 8) = s.pos := by omega
  simp [State.shiftByte, byteOf, boundary, start]

/-- Settles O34, by the two rules that change nothing. -/
theorem stutterSteps : Obligations.StutterSteps := by
  rintro s hr (⟨hf, hv⟩ | ⟨hf, hq⟩)
  · exact step_wait hf hr hv
  · exact step_idle hf hr hq

/-- The completion is the only move from SHIFT to RELEASE without a failure (R149). -/
theorem complete_of_shift_of_release (m : Move s ev t) (hs : s.fsm = .shift) (ht : t.fsm = .release)
    (hx : t.failed = false) : s.pos = 32 ∧ s.ports.verdict = .go ∧ s.ports.rst = false := by
  cases m with
  | complete hr _ hv hp => exact ⟨hp, hv, hr⟩
  | fail => simp at hx
  | wait | bit => simp [hs] at ht
  | reset => simp at ht
  | accept _ _ hf | idle _ hf | select _ hf | releaseNext _ hf | releaseEnd _ hf => simp [hs] at hf

/-- Settles O35: the rule, and of the moves only it. -/
theorem completeStep : Obligations.CompleteStep := by
  refine ⟨fun s hf hp hr hv => step_complete hf hr hv hp, fun s t hs hstep ht hx => ?_⟩
  obtain ⟨ev, m⟩ := exists_move_of_step hstep
  exact complete_of_shift_of_release m hs ht hx

/-- Settles O36: the exception leaves the trace, whose open transaction the wire's invariant describes. -/
theorem failStep : Obligations.FailStep := by
  intro s hf hp hr hv
  refine ⟨s.sampled.raiseTransportFailure, step_fail hf hr hv hp, rfl, fun wire selected => ?_⟩
  simpa [WireInv, selected] using wire

/-! ### Release (R151, R152) -/

/-- Only writeAllChannels has more than one frame (R65, R122). -/
theorem eq_writeAllChannels_of_encode_tail {res : Resolution} (h : (encode res i).tail ≠ []) :
    ∃ vs, i = .writeAllChannels vs := by
  cases i with
  | writeAllChannels vs => exact ⟨vs, rfl⟩
  | _ => exact absurd rfl h

/-- Settles O37: the rule, with the head of the queue written out. -/
theorem releaseNextStep : Obligations.ReleaseNextStep := by
  refine ⟨fun s f fs hf hr hx hq => ?_, fun _ _ => eq_writeAllChannels_of_encode_tail⟩
  rw [step_releaseNext hf hr hx (by simp [hq])]
  simp [State.releaseNext, State.sampled, State.emit, hq]

/-- Settles O38: the rule, with its two events as one list. -/
theorem releaseEndStep : Obligations.ReleaseEndStep := by
  intro s hf hr h
  refine ⟨endResult s.failed, rfl, ?_⟩
  rw [step_releaseEnd hf hr h]
  simp [State.releaseEnd, State.sampled, State.emit]

/-! ### Progress (R155, R159) -/

/-- Every move of a busy block but a reset and a WAIT leaves fewer steps. -/
theorem stepsLeft_lt_or_wait (h : BlockInv s) (m : Move s ev t) (hs : s.fsm ≠ .idle) (hr : s.ports.rst = false) :
    (s.fsm = .shift ∧ s.ports.verdict = .wait ∧ t.stepsLeft = s.stepsLeft) ∨ t.stepsLeft < s.stepsLeft := by
  cases m with
  | reset rst => simp [hr] at rst
  | accept _ _ hf | idle _ hf => exact absurd hf hs
  | wait _ hf hv => exact .inl ⟨hf, hv, rfl⟩
  | select _ hf =>
    right
    simp [State.stepsLeft, hf]
    omega
  | bit _ hf _ hp =>
    right
    simp [State.stepsLeft, hf]
    omega
  | complete _ hf _ hp =>
    have unfailed : s.failed = false := by simpa [hf] using h.failedRelease
    right
    simp [State.stepsLeft, hf, hp, unfailed]
  | fail _ hf _ hp =>
    right
    simp [State.stepsLeft, hf]
    omega
  | releaseNext _ hf hx hq =>
    have more : 0 < s.queue.length := List.length_pos_of_ne_nil hq
    right
    simp [State.stepsLeft, hf, hx]
    omega
  | releaseEnd _ hf =>
    right
    cases hx : s.failed <;> simp [State.stepsLeft, hf, hx]

/-- Settles O53, move by move. -/
theorem everyAnsweredStepMakesProgress : Obligations.EveryAnsweredStepMakesProgress := by
  intro s t h hs hr hstep
  obtain ⟨ev, m⟩ := exists_move_of_step hstep
  exact stepsLeft_lt_or_wait h m hs hr

end Sys2Proof.Proofs.StepRules

/-! A request sent as a run (41_bus_transaction.md R154, R155, R157): under GO one bit a step and 35 steps a frame, up
to any bit of any frame; two steps from there end the request, by a GO after its last bit or by a FAIL. -/

namespace Sys2Proof.Proofs.RequestRuns

open Sys2Proof Sys2Proof.Machine Sys2Proof.Proofs.StateInvariants Sys2Proof.Proofs.StepRules

/-! ### Runs that reach a state with a property -/

/-- After `n` steps from `s`, none of which stops, the state has the property. -/
def Reaches (n : Nat) (s : State) (P : State → Prop) : Prop := ∃ t, runSteps n s = .next t ∧ P t

section
variable {m n k : Nat} {s t : State} {P Q : State → Prop}

theorem Reaches.of_step (h : step s = .next t) (ht : P t) : Reaches 1 s P := ⟨t, runSteps_succ_next h, ht⟩

theorem Reaches.trans (first : Reaches m s P) (second : ∀ t, P t → Reaches n t Q) (total : k = m + n := by omega) :
    Reaches k s Q := by
  obtain ⟨t, run, ht⟩ := first
  obtain ⟨u, run', hu⟩ := second t ht
  exact ⟨u, by rw [total, runSteps_add run, run'], hu⟩

end

/-! ### A request in progress -/

/-- A request is in progress and has not failed: `frames` are those not yet released, `pos` bits of the first of them
are out, and `coming` are the port samples of the coming steps. -/
structure InProgress (phase : Fsm) (res : Resolution) (trace : List Event) (frames : List Frame) (pos : Nat)
    (coming : List PortSample) (s : State) : Prop where
  fsm_eq : s.fsm = phase
  res_eq : s.res = res
  trace_eq : s.trace = trace
  frames_eq : s.frame :: s.queue = frames
  pos_eq : s.pos = pos
  inputs_eq : s.inputs = coming
  unfailed : s.failed = false
  serializer : SerializerInv s

/-- The request has ended with its frame `f` the last one on the wire, and `pos` of its bits were sent. -/
structure Ended (res : Resolution) (trace : List Event) (f : Frame) (pos : Nat) (result : Result)
    (coming : List PortSample) (s : State) : Prop where
  fsm_eq : s.fsm = .idle
  sel_eq : s.sel = false
  res_eq : s.res = res
  trace_eq : s.trace = trace
  frame_eq : s.frame = f
  queue_eq : s.queue = []
  pos_eq : s.pos = pos
  inputs_eq : s.inputs = coming
  failed_eq : s.failed = false
  result_eq : s.result = result

section
variable {s : State} {res : Resolution} {i : Instr} {T : List Event} {f : Frame} {fs sent after : List Frame} {k : Nat}
  {p q : PortSample} {gos ps : List PortSample}

theorem ports_of_inputs (h : s.inputs = p :: ps) : s.ports = p := by
  simp [State.ports, h]

theorem allGo_append : AllGo (gos ++ ps) ↔ AllGo gos ∧ AllGo ps := List.forall_mem_append

theorem allGo_cons : AllGo (p :: ps) ↔ (p.rst = false ∧ p.verdict = .go) ∧ AllGo ps := List.forall_mem_cons

/-! ### The moves of a request in progress -/

/-- Acceptance (R140). -/
theorem InProgress.of_accept (hs : s.fsm = .idle) (hw : i.WellFormed) (hp : p.rst = false) (hq : p.req = some i)
    (hin : s.inputs = p :: ps) : Reaches 1 s (InProgress .select s.res s.trace (encode s.res i) 0 ps) := by
  have ports := ports_of_inputs hin
  obtain ⟨f, fs, frames⟩ := exists_encode_eq_cons hw s.res
  refine .of_step (step_accept hs (ports ▸ hp) (ports ▸ hq) hw) ?_
  exact ⟨rfl, rfl, rfl, by simp [frames], rfl, by simp [hin], rfl, by simp [SerializerInv]⟩

/-- The select step (R142). -/
theorem InProgress.select (h : InProgress .select res T fs 0 (p :: ps) s) (hp : p.rst = false) :
    Reaches 1 s (InProgress .shift res (T ++ [.selAssert]) fs 0 ps) := by
  refine .of_step (step_select h.fsm_eq (ports_of_inputs h.inputs_eq ▸ hp)) ?_
  exact ⟨rfl, h.res_eq, by simp [h.trace_eq], h.frames_eq, h.pos_eq, by simp [h.inputs_eq], h.unfailed,
    by simp [SerializerInv, h.pos_eq]⟩

/-- The shift step sends the next bit of the frame (R145). -/
theorem InProgress.bit (h : InProgress .shift res T (f :: fs) k (p :: ps) s) (hp : p.rst = false)
    (hv : p.verdict = .go) (hk : k < 32) :
    Reaches 1 s (InProgress .shift res (T ++ [.bit (f.getLsbD (31 - k))]) (f :: fs) (k + 1) ps) := by
  have ports := ports_of_inputs h.inputs_eq
  have hpos : s.pos < 32 := h.pos_eq ▸ hk
  have bit : s.sampled.shiftByte.getLsbD 7 = f.getLsbD (31 - k) := by
    have top := shiftByte_top h.serializer h.fsm_eq hpos
    rwa [h.pos_eq, (List.cons.inj h.frames_eq).1] at top
  have trace : s.sampled.shiftBit.trace = T ++ [.bit (f.getLsbD (31 - k))] := by
    rw [State.shiftBit_trace, bit, State.sampled_trace, h.trace_eq]
  refine .of_step (step_bit h.fsm_eq (ports ▸ hp) (ports ▸ hv) hpos) ?_
  exact ⟨h.fsm_eq, h.res_eq, trace, h.frames_eq, by simp [h.pos_eq], by simp [h.inputs_eq],
    h.unfailed, serializerInv_shiftBit (s := s.sampled) h.serializer⟩

/-- The completion step (R149). -/
theorem InProgress.complete (h : InProgress .shift res T fs 32 (p :: ps) s) (hp : p.rst = false)
    (hv : p.verdict = .go) : Reaches 1 s (InProgress .release res T fs 32 ps) := by
  have ports := ports_of_inputs h.inputs_eq
  refine .of_step (step_complete h.fsm_eq (ports ▸ hp) (ports ▸ hv) h.pos_eq) ?_
  exact ⟨rfl, h.res_eq, h.trace_eq, h.frames_eq, h.pos_eq, by simp [h.inputs_eq], h.unfailed, by simp [SerializerInv]⟩

/-- The release to the next frame (R151). -/
theorem InProgress.releaseNext (h : InProgress .release res T (f :: fs) k (p :: ps) s) (hp : p.rst = false)
    (more : fs ≠ []) : Reaches 1 s (InProgress .select res (T ++ [.selDeassert]) fs 0 ps) := by
  have queue : s.queue = fs := (List.cons.inj h.frames_eq).2
  obtain ⟨g, gs, rfl⟩ := List.exists_cons_of_ne_nil more
  refine .of_step (step_releaseNext h.fsm_eq (ports_of_inputs h.inputs_eq ▸ hp) h.unfailed (queue ▸ more)) ?_
  exact ⟨rfl, h.res_eq, by simp [h.trace_eq], by simp [queue], rfl, by simp [h.inputs_eq], h.unfailed,
    by simp [SerializerInv]⟩

/-- The release after the last frame (R152). -/
theorem InProgress.releaseEnd (h : InProgress .release res T [f] k (p :: ps) s) (hp : p.rst = false) :
    Reaches 1 s (Ended res (T ++ [.selDeassert, .done .ok]) f k .ok ps) := by
  obtain ⟨frame, queue⟩ := List.cons.inj h.frames_eq
  refine .of_step (step_releaseEnd h.fsm_eq (ports_of_inputs h.inputs_eq ▸ hp) (.inr queue)) ?_
  exact ⟨rfl, rfl, h.res_eq, by simp [h.trace_eq, h.unfailed, endResult], frame, rfl, h.pos_eq,
    by simp [h.inputs_eq], rfl, by simp [h.unfailed, endResult]⟩

/-- A failure and the release after it (R150, R152). -/
theorem InProgress.fail (h : InProgress .shift res T (f :: fs) k (p :: q :: ps) s) (hk : k ≤ 32)
    (hp : p.rst = false) (hv : p.verdict = .fail) (hq : q.rst = false) :
    Reaches 2 s (Ended res (T ++ [.selDeassert, .done .transportFailure]) f k .transportFailure ps) := by
  have ports := ports_of_inputs h.inputs_eq
  have failing := step_fail h.fsm_eq (ports ▸ hp) (ports ▸ hv) (h.pos_eq ▸ hk)
  have next : s.sampled.raiseTransportFailure.inputs = q :: ps := by simp [h.inputs_eq]
  have ending := step_releaseEnd (s := s.sampled.raiseTransportFailure) rfl (ports_of_inputs next ▸ hq) (.inl rfl)
  refine ⟨_, (runSteps_succ_next failing).trans (runSteps_succ_next ending), ?_⟩
  exact ⟨rfl, rfl, h.res_eq, by simp [h.trace_eq, endResult], (List.cons.inj h.frames_eq).1, rfl, h.pos_eq,
    by simp [h.inputs_eq], rfl, rfl⟩

/-! ### Whole frames -/

/-- Under GO, `k` steps send the first `k` bits of the frame (R144, R145). -/
theorem InProgress.bits (go : AllGo gos) (hk : gos.length ≤ 32)
    (h : InProgress .shift res T (f :: fs) 0 (gos ++ ps) s) :
    Reaches gos.length s
      (InProgress .shift res (T ++ (firstBits f gos.length).map .bit) (f :: fs) gos.length ps) := by
  induction gos using List.reverseRecOn generalizing ps with
  | nil => exact ⟨s, rfl, by simpa using h⟩
  | append_singleton gos p ih =>
    obtain ⟨go, goLast⟩ := allGo_append.mp go
    obtain ⟨⟨hr, hv⟩, -⟩ := allGo_cons.mp goLast
    have room : gos.length < 32 := by simpa using hk
    rw [List.length_append, List.length_singleton, firstBits_succ, List.map_append, ← List.append_assoc]
    exact (ih go room.le (by simpa using h)).trans fun _ h => h.bit hr hv room

/-- Under GO, the select step and `k` shift steps open a transaction with the first `k` bits of the frame (R154). -/
theorem InProgress.opens (go : AllGo gos) (hlen : gos.length = 1 + k) (hk : k ≤ 32)
    (h : InProgress .select res T (f :: fs) 0 (gos ++ ps) s) :
    Reaches (1 + k) s
      (InProgress .shift res (T ++ [.selAssert] ++ (firstBits f k).map .bit) (f :: fs) k ps) := by
  cases gos with
  | nil => simp at hlen; omega
  | cons p gos =>
    obtain rfl : gos.length = k := by simpa [Nat.add_comm] using hlen
    obtain ⟨⟨hr, -⟩, go⟩ := allGo_cons.mp go
    exact (h.select hr).trans fun _ h => h.bits go hk

/-- Under GO, 35 steps send a whole transaction and load the next frame (R151, R154). -/
theorem InProgress.wholeFrame (go : AllGo gos) (hlen : gos.length = 35) (more : fs ≠ [])
    (h : InProgress .select res T (f :: fs) 0 (gos ++ ps) s) :
    Reaches 35 s (InProgress .select res (T ++ transactionTrace f 32) fs 0 ps) := by
  obtain ⟨a, b, ab⟩ := List.length_eq_two.mp (show (gos.drop 33).length = 2 by simp [hlen])
  rw [← gos.take_append_drop 33, ab] at go h
  simp only [allGo_append, allGo_cons] at go
  obtain ⟨goFirst, ⟨hr, hv⟩, ⟨hr', -⟩, -⟩ := go
  rw [List.append_assoc] at h
  have closed := (h.opens goFirst (by simp [hlen]) le_rfl).trans (k := 35) fun _ h =>
    (h.complete hr hv).trans (k := 2) fun _ h => h.releaseNext hr' more
  simpa [transactionTrace] using closed

/-- Under GO, frames with one more after them are sent as whole transactions, 35 steps each (R155). -/
theorem InProgress.wholeFrames (go : AllGo gos) (hlen : gos.length = 35 * sent.length)
    (h : InProgress .select res T (sent ++ f :: after) 0 (gos ++ ps) s) :
    Reaches (35 * sent.length) s
      (InProgress .select res (T ++ sent.flatMap (transactionTrace · 32)) (f :: after) 0 ps) := by
  induction sent generalizing gos T s with
  | nil =>
    obtain rfl : gos = [] := by simpa using hlen
    exact ⟨s, rfl, by simpa using h⟩
  | cons g gs ih =>
    rw [List.length_cons] at hlen ⊢
    rw [← gos.take_append_drop 35, allGo_append] at go
    rw [← gos.take_append_drop 35, List.append_assoc] at h
    rw [List.flatMap_cons, ← List.append_assoc]
    exact (h.wholeFrame go.1 (by simp; omega) (by simp)).trans fun _ h => ih go.2 (by simp; omega) h

/-! ### The request from its acceptance -/

/-- Under GO, an idle block presented a request gets to bit `k` of any frame `f` of it, the frames before `f` sent
whole (R155). -/
theorem reaches_bit (hs : s.fsm = .idle) (hw : i.WellFormed) (hp : p.rst = false) (hq : p.req = some i)
    (frames : encode s.res i = sent ++ f :: after) (hk : k ≤ 32) (go : AllGo gos)
    (hlen : gos.length = 35 * sent.length + 1 + k) (hin : s.inputs = p :: (gos ++ ps)) :
    Reaches (35 * sent.length + k + 2) s
      (InProgress .shift s.res
        (s.trace ++ sent.flatMap (transactionTrace · 32) ++ [.selAssert] ++ (firstBits f k).map .bit)
        (f :: after) k ps) := by
  rw [← gos.take_append_drop (35 * sent.length), allGo_append] at go
  rw [← gos.take_append_drop (35 * sent.length), List.append_assoc] at hin
  exact (InProgress.of_accept hs hw hp hq hin).trans fun _ h =>
    ((frames ▸ h).wholeFrames go.1 (by simp; omega)).trans (k := 35 * sent.length + (1 + k)) fun _ h =>
      h.opens go.2 (by simp; omega) hk

/-- A request whose last frame is confirmed after its last bit ends with OK, whatever the verdict on the release. -/
theorem reaches_completed (hs : s.fsm = .idle) (hw : i.WellFormed) (hp : p.rst = false) (hq : p.req = some i)
    (frames : encode s.res i = sent ++ [f]) {good last : PortSample} (go : AllGo gos)
    (hlen : gos.length = 35 * sent.length + 33) (hr : good.rst = false) (hv : good.verdict = .go)
    (hl : last.rst = false) (hin : s.inputs = p :: (gos ++ good :: last :: ps)) :
    Reaches (35 * sent.length + 36) s
      (Ended s.res (s.trace ++ completedTrace (sent ++ [f])) f 32 .ok ps) := by
  have ended := (reaches_bit hs hw hp hq frames le_rfl go (by omega) hin).trans
    (k := 35 * sent.length + 36) fun _ h => (h.complete hr hv).trans (k := 2) fun _ h => h.releaseEnd hl
  simpa [completedTrace, transactionTrace] using ended

/-- A request whose frame `f` fails after `k` bits ends there (R150, R152). -/
theorem reaches_failed (hs : s.fsm = .idle) (hw : i.WellFormed) (hp : p.rst = false) (hq : p.req = some i)
    (frames : encode s.res i = sent ++ f :: after) (hk : k ≤ 32) {bad last : PortSample} (go : AllGo gos)
    (hlen : gos.length = 35 * sent.length + 1 + k) (hr : bad.rst = false) (hv : bad.verdict = .fail)
    (hl : last.rst = false) (hin : s.inputs = p :: (gos ++ bad :: last :: ps)) :
    Reaches (35 * sent.length + k + 4) s
      (Ended s.res (s.trace ++ failedTrace sent f k) f k .transportFailure ps) := by
  have ended := (reaches_bit hs hw hp hq frames hk go hlen hin).trans
    (k := 35 * sent.length + k + 4) fun _ h => h.fail hk hr hv hl
  simpa [failedTrace, transactionTrace] using ended

end

/-! ### The obligations -/

/-- Settles O54: the last two of the samples are the GO after the last bit and the release. -/
theorem requestRunsToCompletion : Obligations.RequestRunsToCompletion := by
  intro s i p gos rest hs hw hp hq go hlen hin
  obtain ⟨g, gs, nonempty⟩ := exists_encode_eq_cons hw s.res
  obtain ⟨sent, f, frames⟩ : ∃ sent f, encode s.res i = sent ++ [f] :=
    (List.eq_nil_or_concat' _).resolve_left (by simp [nonempty])
  have count : (encode s.res i).length = sent.length + 1 := by simp [frames]
  rw [count] at hlen ⊢
  obtain ⟨good, last, ends⟩ :=
    List.length_eq_two.mp (show (gos.drop (35 * sent.length + 33)).length = 2 by simp; omega)
  rw [← gos.take_append_drop (35 * sent.length + 33), ends] at go hin
  simp only [allGo_append, allGo_cons] at go
  obtain ⟨goFirst, ⟨hr, hv⟩, ⟨hr', -⟩, -⟩ := go
  obtain ⟨t, run, ended⟩ := reaches_completed hs hw hp hq frames goFirst (by simp; omega) hr hv hr'
    (by simpa using hin)
  rw [frames]
  refine ⟨t, ?_, ended.trace_eq, ended.fsm_eq, ended.sel_eq, ended.pos_eq, ended.queue_eq, ended.failed_eq,
    ended.result_eq, by simp [ended.frame_eq], ended.res_eq, ended.inputs_eq⟩
  rwa [show 1 + 35 * (sent.length + 1) = 35 * sent.length + 36 by omega]

/-- Settles O55: the frames before frame `j` are sent whole, and it fails. -/
theorem requestStopsAtFirstFailure : Obligations.RequestStopsAtFirstFailure := by
  intro s i p bad last gos rest j k f hs hw hp hq hf hk go hlen hr hv hl hin
  obtain ⟨inside, rfl⟩ := List.getElem?_eq_some_iff.mp hf
  have frames : encode s.res i = (encode s.res i).take j ++ (encode s.res i)[j] :: (encode s.res i).drop (j + 1) := by
    simp
  have count : ((encode s.res i).take j).length = j := List.length_take_of_le inside.le
  obtain ⟨t, run, ended⟩ := reaches_failed hs hw hp hq frames hk go (by omega) hr hv hl hin
  rw [count] at run
  exact ⟨t, run, ended.trace_eq, ended.fsm_eq, ended.sel_eq, ended.pos_eq, ended.queue_eq, ended.failed_eq,
    ended.result_eq, ended.frame_eq, ended.res_eq, ended.inputs_eq⟩

/-- Settles O56: the same 33 samples lead to the last bit, and either verdict ends the request. -/
theorem failureMayCarryTheWholeFrame : Obligations.FailureMayCarryTheWholeFrame := by
  intro s i f p last gos req hs hw frames hp hq go hlen hl
  obtain ⟨t, runGo, completed⟩ := reaches_completed (sent := []) (ps := [])
    (s := { s with inputs := p :: (gos ++ [⟨false, req, .go⟩, last]) }) hs hw hp hq frames go hlen rfl rfl hl rfl
  obtain ⟨u, runFail, failed⟩ := reaches_failed (sent := []) (after := []) (k := 32) (ps := [])
    (s := { s with inputs := p :: (gos ++ [⟨false, req, .fail⟩, last]) }) hs hw hp hq frames le_rfl go hlen
    rfl rfl hl rfl
  refine ⟨t, u, runGo, runFail, ?_, ?_, completed.result_eq, failed.result_eq⟩
  · simp [completed.trace_eq, completedTrace]
  · simp [failed.trace_eq, failedTrace]

end Sys2Proof.Proofs.RequestRuns

/-! The write and update operations (42_write_update.md R180 to R187): how each is accepted by an idle block (R140), and
what the result says of the frame last sent (R184). -/

namespace Sys2Proof.Proofs.WriteUpdate

open Sys2Proof Sys2Proof.Machine Sys2Proof.Proofs.StepMoves Sys2Proof.Proofs.RequestEnd Sys2Proof.Proofs.RequestChecks
  Sys2Proof.Proofs.FrameFields

variable {s t : State} {ev : List Event} {i : Instr} {f : Frame} {fs : List Frame}

/-! ### The result of a request (R184) -/

theorem endResult_eq_ok_iff (failed : Bool) : endResult failed = .ok ↔ failed = false := by
  cases failed <;> simp [endResult]

theorem endResult_eq_transportFailure_iff (failed : Bool) : endResult failed = .transportFailure ↔ failed = true := by
  cases failed <;> simp [endResult]

/-- Without a reset, a busy block gets to IDLE only by the release that ends the request (R148, R152). -/
theorem eq_releaseEnd_of_busy_of_idle (m : Move s ev t) (hr : s.ports.rst = false) (hs : s.fsm ≠ .idle)
    (ht : t.fsm = .idle) : t = s.sampled.releaseEnd := by
  obtain ⟨-, -, ending⟩ := eq_releaseEnd_of_isDone m hr (isDone_of_busy_of_idle m hr hs ht)
  exact ending

/-- The end of a request closes the open transaction with the bits sent of its frame (R152, R154). -/
theorem closed_releaseEnd (wire : WireInv s) (selected : s.sel = true) :
    (traceView s.releaseEnd.trace).closed = (traceView s.trace).closed ++ [firstBits s.frame s.pos] := by
  have opened : (traceView s.trace).current = some (firstBits s.frame s.pos) := by simpa [WireInv, selected] using wire
  simp [opened]

/-- Settles O52: the step is the release that ends the request, its result says whether the frame failed, and an
unfailed frame is released only whole. -/
theorem okMeansWholeFrame : Obligations.OkMeansWholeFrame := by
  intro s t inv hs ht hr hstep
  obtain ⟨ev, m⟩ := exists_move_of_step hstep
  obtain rfl := eq_releaseEnd_of_busy_of_idle m hr (by simp [hs]) ht
  have selected : s.sel = true := inv.block.selectedIff.mpr (.inr hs)
  have ok : endResult s.failed = .ok ↔ s.failed = false := endResult_eq_ok_iff s.failed
  exact ⟨closed_releaseEnd (s := s.sampled) inv.wire selected, ok, endResult_eq_transportFailure_iff s.failed,
    fun h => inv.status.releasedWhole hs (ok.mp h)⟩

/-! ### Acceptance (R140) -/

/-- A well-formed request presented in IDLE is accepted with its first frame loaded and the others queued. -/
theorem exec_of_encode_eq_cons (hs : s.fsm = .idle) (hw : i.WellFormed) (frames : encode s.res i = f :: fs) :
    exec i s =
      .next { s with frame := f, queue := fs, pos := 0, failed := false, result := .none, fsm := .select } := by
  rw [exec_of_wellFormed hs hw, frames]
  rfl

/-- The frame of update(Broadcast) is a constant (R187). -/
theorem updateFrame_broadcast : updateFrame specCodes .broadcast = 0x01F00000#32 := by decide

/-- Settles O13: of a channel and a sample only the sample's width is checked. -/
theorem writeInputAccepted : Obligations.WriteInputAccepted := fun _ _ _ hs hv =>
  exec_of_encode_eq_cons hs ((checkSample_eq_none_iff _).mpr hv) rfl

/-- Settles O14: eight samples that fit pass the check, and each meets its channel's code. -/
theorem writeAllChannelsAccepted : Obligations.WriteAllChannelsAccepted := fun _ _ _ _ _ _ _ _ _ hs fit =>
  exec_of_encode_eq_cons hs ((checkSamples_eq_none_iff _).mpr ⟨rfl, fit⟩) rfl

/-- Settles O15: every address is well formed. -/
theorem updateAccepted : Obligations.UpdateAccepted := fun _ _ hs => exec_of_encode_eq_cons hs rfl rfl

/-- Settles O16: updateAllChannels has the check and the frame of update(Broadcast) (R91). -/
theorem updateAllChannelsAccepted : Obligations.UpdateAllChannelsAccepted := by
  intro s hs
  have frames : encode s.res .updateAllChannels = [0x01F00000#32] := congrArg (fun f => [f]) updateFrame_broadcast
  exact ⟨exec_of_encode_eq_cons hs rfl frames, exec_congr rfl rfl⟩

/-- Settles O17: the check is that of writeInput. -/
theorem writeAndUpdateAccepted : Obligations.WriteAndUpdateAccepted := fun _ _ _ hs hv =>
  exec_of_encode_eq_cons hs ((checkSample_eq_none_iff _).mpr hv) rfl

/-- Settles O18: only the sample is checked, for the address is fixed. -/
theorem writeInputUpdateAllAccepted : Obligations.WriteInputUpdateAllAccepted := fun _ _ hs hv =>
  exec_of_encode_eq_cons hs ((checkSample_eq_none_iff _).mpr hv) rfl

end Sys2Proof.Proofs.WriteUpdate

/-! The configuration and control operations (43_configuration.md R210 to R222): the frame of each, written out from its
top bit down, and how an idle block accepts it (41_bus_transaction.md R140). -/

namespace Sys2Proof.Proofs.Configuration

open Sys2Proof Sys2Proof.Machine Sys2Proof.Proofs.DeviceStaging Sys2Proof.Proofs.WriteUpdate

/-! ### The parts of three bit vectors joined -/

section

variable {u v w : Nat} {x : BitVec u} {y : BitVec v} {z : BitVec w}

theorem extractLsb'_append_append_top : (x ++ y ++ z).extractLsb' (w + v) u = x := by
  rw [BitVec.extractLsb'_append_eq_of_le (Nat.le_add_right w v), Nat.add_sub_cancel_left,
    BitVec.extractLsb'_append_eq_left]

theorem extractLsb'_append_append_middle : (x ++ y ++ z).extractLsb' w v = y := by
  rw [BitVec.extractLsb'_append_eq_of_le le_rfl, Nat.sub_self, BitVec.extractLsb'_append_eq_right]

end

/-! ### The frames (R210 to R219) -/

/-- The mode's two bits are the only ones below the address that are not 0 (R210). -/
theorem setPowerModeFrame_eq_append (a : ChannelAddress) (p : PowerMode) :
    setPowerModeFrame specCodes a p = 0x04#8 ++ addrCode a ++ 0#10 ++ pmCode p ++ 0#8 := by
  have packed : ∀ (addr : Nibble) (m : BitVec 2),
      pack 0b0100#4 addr (m.zeroExtend 16 <<< 4) 0b0000#4 = 0x04#8 ++ addr ++ 0#10 ++ m ++ 0#8 := by decide
  exact packed (addrCode a) (pmCode p)

/-- The code's two bits are the only ones below the command that are not 0 (R212). -/
theorem setClearCodeFrame_eq_append (k : ClearCodeMode) :
    setClearCodeFrame specCodes k = 0x0500000#28 ++ ccCode k ++ 0#2 := by
  cases k <;> decide

theorem softwareResetFrame_eq : softwareResetFrame specCodes = 0x07000000#32 := by decide

theorem staticReferenceFrame_eq (r : StaticReference) :
    staticReferenceFrame specCodes r = if r = .enabled then 0x08000001#32 else 0x08000000#32 := by
  cases r <;> decide

/-- Bit 19 is set, and of the bits below it only the submode's two are not always 0 (R216). -/
theorem flexReferenceFrame_eq_append (r : FlexReference) :
    flexReferenceFrame specCodes r = 0b0000100000011#13 ++ fxCode r ++ 0#17 := by
  cases r <;> decide

/-! ### Acceptance (R140) -/

/-- Settles O19: every field but the address is a part of the frame written out. -/
theorem setPowerModeAccepted : Obligations.SetPowerModeAccepted := by
  intro s a p hs
  have frame := setPowerModeFrame_eq_append a p
  have top : (setPowerModeFrame specCodes a p).extractLsb' 24 8 = 0x04#8 := by
    rw [frame, BitVec.extractLsb'_append_eq_of_le (by decide), BitVec.extractLsb'_append_eq_of_le (by decide)]
    exact extractLsb'_append_append_top
  have zeros : (setPowerModeFrame specCodes a p).extractLsb' 10 10 = 0#10 := by
    rw [frame, BitVec.extractLsb'_append_eq_of_le (by decide)]
    exact extractLsb'_append_append_middle
  have mode : (setPowerModeFrame specCodes a p).extractLsb' 8 2 = pmCode p := by
    rw [frame]
    exact extractLsb'_append_append_middle
  have low : (setPowerModeFrame specCodes a p).extractLsb' 0 8 = 0#8 := by
    rw [frame]
    exact BitVec.extractLsb'_append_eq_right
  refine ⟨_, exec_of_encode_eq_cons hs rfl rfl, top, addrField_pack .., zeros, mode, low, ?_, ?_, ?_, ?_⟩
  all_goals
    rintro rfl
    exact mode

/-- Settles O20: the frame written out gives its fields, and each code its frame. -/
theorem setClearCodeAccepted : Obligations.SetClearCodeAccepted := by
  intro s k hs
  refine ⟨_, exec_of_encode_eq_cons hs rfl rfl, ?_⟩
  rw [setClearCodeFrame_eq_append]
  refine ⟨extractLsb'_append_append_top, extractLsb'_append_append_middle, BitVec.extractLsb'_append_eq_right,
    ?_, ?_, ?_, ?_⟩
  all_goals
    rintro rfl
    decide

/-- Settles O21: the request has no operands, and its frame is a constant. -/
theorem softwareResetAccepted : Obligations.SoftwareResetAccepted := fun _ hs =>
  exec_of_encode_eq_cons hs rfl (congrArg (fun f => [f]) softwareResetFrame_eq)

/-- Settles O22: the frame is one of two constants. -/
theorem staticReferenceAccepted : Obligations.StaticReferenceAccepted := fun _ r hs =>
  exec_of_encode_eq_cons hs rfl (congrArg (fun f => [f]) (staticReferenceFrame_eq r))

/-- Settles O23: the frame written out gives its fields, and each submode its frame; no earlier frame is asked for. -/
theorem flexReferenceAccepted : Obligations.FlexReferenceAccepted := by
  intro s r hs
  refine ⟨_, exec_of_encode_eq_cons hs rfl rfl, ?_⟩
  rw [flexReferenceFrame_eq_append]
  refine ⟨extractLsb'_append_append_top, extractLsb'_append_append_middle, BitVec.extractLsb'_append_eq_right,
    ?_, ?_, ?_⟩
  all_goals
    rintro rfl
    decide

end Sys2Proof.Proofs.Configuration

/-! The raw operations (44_raw.md R240 to R245): operands of their fields' widths pass the check and are sent as they
are. -/

namespace Sys2Proof.Proofs.Raw

open Sys2Proof Sys2Proof.Machine Sys2Proof.Proofs.FrameDecoding Sys2Proof.Proofs.FrameFields
  Sys2Proof.Proofs.WriteUpdate

/-! ### The checks (R89) and the frames (R240, R245) -/

theorem sendRawFrame_toNat_wellFormed (c a : Nibble) (d : Sample) (f : Nibble) :
    (Instr.sendRawFrame c.toNat a.toNat d.toNat f.toNat).WellFormed := by
  simp [Instr.WellFormed, Instr.illTyped]

theorem sendRawBytes_toNat_wellFormed (b0 b1 b2 b3 : Byte) :
    (Instr.sendRawBytes b0.toNat b1.toNat b2.toNat b3.toNat).WellFormed := by
  simp [Instr.WellFormed, Instr.illTyped]

/-- The frame does not depend on the resolution (R240). -/
theorem encode_sendRawFrame_toNat (res : Resolution) (c a : Nibble) (d : Sample) (f : Nibble) :
    encode res (.sendRawFrame c.toNat a.toNat d.toNat f.toNat) = [pack c a d f] := by
  simp [encode, encodeWith, rawFrame]

theorem encode_sendRawBytes_toNat (res : Resolution) (b0 b1 b2 b3 : Byte) :
    encode res (.sendRawBytes b0.toNat b1.toNat b2.toNat b3.toNat) = [frameOfBytes b0 b1 b2 b3] := by
  simp [encode, encodeWith, rawBytesFrame]

/-- Settles O6: a typed request is not sendRawBytes, so its frame has the prefix 0000 and is the packing of its own four
fields. -/
theorem rawFrameRepeatsTypedFrame : Obligations.RawFrameRepeatsTypedFrame := by
  intro i res res' f typed sent
  have notBytes : ∀ b0 b1 b2 b3, i ≠ .sendRawBytes b0 b1 b2 b3 := by
    rintro _ _ _ _ rfl
    exact Bool.noConfusion typed
  have sentFrame : f ∈ encode res i := sent ▸ List.mem_singleton_self f
  have top : topField f = 0b0000#4 := topField_of_mem_encodeWith sentFrame notBytes
  rw [encode_sendRawFrame_toNat, pack_fields top]

/-! ### Acceptance (R140) -/

/-- Settles O24: four operands of their widths pass the check and are packed. -/
theorem sendRawFrameAccepted : Obligations.SendRawFrameAccepted := fun s c a d f hs =>
  exec_of_encode_eq_cons hs (sendRawFrame_toNat_wellFormed c a d f) (encode_sendRawFrame_toNat s.res c a d f)

/-- Settles O25: four bytes pass the check and are joined. -/
theorem sendRawBytesAccepted : Obligations.SendRawBytesAccepted := fun s b0 b1 b2 b3 hs =>
  exec_of_encode_eq_cons hs (sendRawBytes_toNat_wellFormed b0 b1 b2 b3) (encode_sendRawBytes_toNat s.res b0 b1 b2 b3)

end Sys2Proof.Proofs.Raw

/-! What can stop the block and what it reports (60_exceptions.md R261, R262; 93_implementation_defined.md part 1): with
at most 32 bits shifted out every step answers, but for an ill-typed request in IDLE. -/

namespace Sys2Proof.Proofs.Exceptions

open Sys2Proof Sys2Proof.Machine Sys2Proof.Proofs.RequestChecks

variable {s : State}

/-! ### The steps that do not answer (R15, R89, R262) -/

/-- A SHIFT step faults only with more than 32 bits shifted out, which R31 (d) rules out. -/
theorem exists_shiftStep_eq_next (hp : s.pos ≤ 32) (v : Verdict) : ∃ t, shiftStep v s = .next t := by
  cases v with
  | wait => exact ⟨s, rfl⟩
  | go =>
    obtain inFrame | whole : s.pos < 32 ∨ s.pos = 32 := Nat.lt_or_eq_of_le hp
    · exact ⟨s.shiftBit, if_pos inFrame⟩
    · exact ⟨s.completeFrame, (if_neg (by omega)).trans (if_pos whole)⟩
  | fail => exact ⟨s.raiseTransportFailure, if_pos hp⟩

/-- A step answers, or refuses the ill-typed request presented to the idle block. -/
theorem step_next_or_illTyped (hp : s.pos ≤ 32) :
    (∃ t, step s = .next t) ∨
    s.fsm = .idle ∧ s.ports.rst = false ∧
      ∃ i why, s.ports.req = some i ∧ i.illTyped = some why ∧ step s = .refused (.illTyped why) := by
  obtain ⟨-, e⟩ | ⟨hr, hf, i, hq, e⟩ | ⟨-, -, -, e⟩ | ⟨-, -, e⟩ | ⟨-, -, e⟩ | ⟨-, -, e⟩ := step_cases s
  · exact .inl ⟨_, e⟩
  · cases hi : i.illTyped with
    | none => exact .inl ⟨_, e.trans (exec_of_wellFormed hf hi)⟩
    | some why => exact .inr ⟨hf, hr, i, why, hq, hi, e.trans (exec_of_illTyped hf hi)⟩
  · exact .inl ⟨_, e⟩
  · exact .inl ⟨_, e⟩
  · obtain ⟨t, answer⟩ := exists_shiftStep_eq_next (s := s.sampled) hp s.ports.verdict
    exact .inl ⟨t, e.trans answer⟩
  · exact .inl ⟨_, e⟩

/-- Settles O47: R31 (d) bounds the bits shifted out, and the refusal is the one of the ill-typed request. -/
theorem onlyIllTypedRequestsStop : Obligations.OnlyIllTypedRequestsStop := by
  intro s h
  obtain ⟨t, e⟩ | ⟨hf, hr, i, why, hq, hi, e⟩ := step_next_or_illTyped h.posBound
  all_goals rw [e]
  · exact ⟨nofun, nofun⟩
  · refine ⟨nofun, fun r refusal => ⟨hf, hr, i, why, hq, hi, ?_⟩⟩
    exact (Host.Outcome.refused.inj refusal).symm

/-! ### The result port (R261) -/

theorem resultCode_ne_three (r : Result) : resultCode r ≠ 0b11#2 := by
  cases r <;> decide

/-- Settles O43: the three codes as R261 gives them, and the port drives one of them. -/
theorem resultPortCodes : Obligations.ResultPortCodes :=
  ⟨rfl, rfl, rfl, fun s => resultCode_ne_three s.result⟩

end Sys2Proof.Proofs.Exceptions

/-! Block reset and the hazards of the host (70_reset_and_hazards.md R290 to R295): what a reset leaves of a transaction
and of the quiet time the host owes, and when a flex submode has no enabling frame before it. -/

namespace Sys2Proof.Proofs.ResetAndHazards

open Sys2Proof Sys2Proof.Machine Sys2Proof.Proofs.StepMoves Sys2Proof.Proofs.RequestChecks

variable {s t : State} {ev : List Event}

/-! ### Block reset (R290, R291) -/

/-- Block reset comes before everything else (R290). -/
theorem step_reset (hr : s.ports.rst = true) : step s = .next s.sampled.blockReset := if_pos hr

theorem next_eq_blockReset (hr : s.ports.rst = true) (h : step s = .next t) : t = s.sampled.blockReset :=
  Host.Outcome.next.inj (h.symm.trans (step_reset hr))

/-- Settles O39: the rule, and the fields block reset leaves. -/
theorem blockResetStep : Obligations.BlockResetStep := fun s hr =>
  ⟨s.sampled.blockReset, step_reset hr, State.blockReset_trace s.sampled, rfl, rfl, rfl, rfl, rfl, rfl,
    State.blockReset_res s.sampled, State.blockReset_inputs s.sampled, State.blockReset_draws s.sampled⟩

/-- Block reset of a selected block deasserts the line, which closes the open transaction and ends no request. -/
theorem traceView_blockReset (wire : WireInv s) (selected : s.sel = true) :
    traceView s.blockReset.trace =
      ⟨(traceView s.trace).closed ++ [firstBits s.frame s.pos], none, (traceView s.trace).results⟩ := by
  have opened : (traceView s.trace).current = some (firstBits s.frame s.pos) := by simpa [WireInv, selected] using wire
  simp [selected, opened]

/-- Settles O40: the step is the reset, whose one event closes the transaction. -/
theorem resetClosesTransaction : Obligations.ResetClosesTransaction := by
  intro s t wire selected hr hstep
  obtain rfl := next_eq_blockReset hr hstep
  rw [traceView_blockReset (s := s.sampled) wire selected]
  exact ⟨rfl, rfl, rfl⟩

/-! ### The flex hazard (R294) -/

/-- A submode frame stands in the list with no FlexModeEnabled frame at any earlier place. -/
def SubmodeWithoutEnable (fs : List Frame) : Prop :=
  ∃ j : Nat, (fs[j]? = some 0x081A0000#32 ∨ fs[j]? = some 0x081C0000#32) ∧
    ∀ m : Nat, m < j → fs[m]? ≠ some 0x08180000#32

theorem not_submodeWithoutEnable_nil : ¬ SubmodeWithoutEnable [] := by
  simp [SubmodeWithoutEnable]

/-- The first frame is such a submode frame, or it does not enable and one stands in the rest. -/
theorem submodeWithoutEnable_cons_iff (f : Frame) (fs : List Frame) :
    SubmodeWithoutEnable (f :: fs) ↔
      (f = 0x081A0000#32 ∨ f = 0x081C0000#32) ∨ f ≠ 0x08180000#32 ∧ SubmodeWithoutEnable fs := by
  rw [SubmodeWithoutEnable, ← Nat.or_exists_add_one]
  simp only [Nat.forall_lt_succ_left]
  simp [SubmodeWithoutEnable, and_left_comm]

/-- The check of one more frame, with the three frames written out (R216). -/
theorem flexOrderHazard_cons (enabled : Bool) (f : Frame) (fs : List Frame) :
    flexOrderHazard enabled (f :: fs) =
      if f = 0x08180000#32 then flexOrderHazard true fs
      else if f = 0x081A0000#32 ∨ f = 0x081C0000#32 then !enabled || flexOrderHazard enabled fs
      else flexOrderHazard enabled fs := rfl

/-- After an enabling frame there is no hazard, whatever is sent (log 19). -/
theorem flexOrderHazard_true (fs : List Frame) : flexOrderHazard true fs = false := by
  induction fs with
  | nil => rfl
  | cons f fs ih => simp [flexOrderHazard_cons, ih]

/-- Settles O58, frame by frame: an enabling frame ends the search, a submode frame before it is the hazard. -/
theorem flexHazardIsMissingEnable : Obligations.FlexHazardIsMissingEnable := by
  intro fs
  change _ ↔ SubmodeWithoutEnable fs
  induction fs with
  | nil => simp [flexOrderHazard, not_submodeWithoutEnable_nil]
  | cons f fs ih =>
    rw [flexOrderHazard_cons, submodeWithoutEnable_cons_iff]
    by_cases enabling : f = 0x08180000#32
    · simp [enabling, flexOrderHazard_true]
    by_cases submode : f = 0x081A0000#32 ∨ f = 0x081C0000#32
    · simp [enabling, submode]
    · simp [enabling, submode, ih]

/-! ### The quiet time after a software reset (R295) -/

/-- A move that emits Done is no reset and leads from RELEASE to IDLE (R152, R290). -/
theorem release_to_idle_of_isDone (m : Move s ev t) (h : ev.any Event.isDone = true) :
    s.ports.rst = false ∧ s.fsm = .release ∧ t.fsm = .idle := by
  cases m with
  | releaseEnd hr hf => exact ⟨hr, hf, rfl⟩
  | reset => cases hsel : s.sel <;> simp [hsel, Event.isDone] at h
  | _ => simp [Event.isDone] at h

/-- A move under a reset, out of another state than RELEASE or not to IDLE pulses no done. -/
theorem donePulse_eq_false (m : Move s ev t) (h : s.ports.rst = true ∨ s.fsm ≠ .release ∨ t.fsm ≠ .idle) :
    donePulse s t = false := by
  rw [donePulse, m.newEvents_eq, Bool.eq_false_iff]
  intro done
  obtain ⟨hr, hs, ht⟩ := release_to_idle_of_isDone m done
  simp [hr, hs, ht] at h

/-- From IDLE a move stays or accepts a request (R140, R160). -/
theorem fsm_of_idle (m : Move s ev t) (hf : s.fsm = .idle) : t.fsm = .idle ∨ t.fsm = .select := by
  cases m with
  | reset => exact .inl rfl
  | idle => exact .inl hf
  | accept => exact .inr rfl
  | _ => simp_all

/-- The duty after a reset is the duty before it (R292, R295). -/
theorem quietTimeOwed_blockReset (owed : Bool) (hr : s.ports.rst = true) :
    quietTimeOwed owed s s.sampled.blockReset = owed :=
  quietTimeOwed_of_neither (donePulse_eq_false (.reset hr) (.inl hr)) (by simp)

/-- Settles O60: only the release that ends a request decides the duty by its frame, and of the other moves only an
acceptance leads from IDLE to a busy state. -/
theorem quietTimeOwedAfterSoftwareReset : Obligations.QuietTimeOwedAfterSoftwareReset := by
  intro owed s t hstep
  obtain ⟨ev, m⟩ := exists_move_of_step hstep
  refine ⟨fun hd => ⟨quietTimeOwed_of_done hd, fun i hw => ?_⟩, fun hr => ?_, fun hs ht => ?_, fun hs ht => ?_,
    fun hs ht => ?_⟩
  · rw [donePulse, m.newEvents_eq] at hd
    obtain ⟨-, -, ready⟩ := release_to_idle_of_isDone m hd
    exact ⟨_, exec_of_wellFormed ready hw, rfl⟩
  · obtain rfl := next_eq_blockReset hr hstep
    exact quietTimeOwed_blockReset owed hr
  · exact quietTimeOwed_of_neither (donePulse_eq_false m (.inr (.inr ht))) (by simp [hs])
  · exact quietTimeOwed_of_neither (donePulse_eq_false m (.inr (.inl (by simp [hs])))) (by simp [ht])
  · exact quietTimeOwed_of_accept (donePulse_eq_false m (.inr (.inr ht))) hs ((fsm_of_idle m hs).resolve_left ht)

end Sys2Proof.Proofs.ResetAndHazards

/-! Decoding the frames of a typed request (30_encoding.md R92; 40_frame_encoder.md R118, R124): each operation's frame
falls in the operation's own row, and the fields of the row give its operands back, the samples masked. -/

namespace Sys2Proof.Proofs.RoundTrip

open Sys2Proof Sys2Proof.Proofs.DeviceStaging Sys2Proof.Proofs.FrameDecoding

variable {res : Resolution} {vs : List Nat} {i : Instr}

/-! ### One frame (R92) -/

theorem decode_writeInputUpdateAllFrame (res : Resolution) (v : Nat) :
    decode (writeInputUpdateAllFrame specCodes res v) =
      .writeInputUpdateAll (maskSample res (BitVec.ofNat 16 v)).toNat := by
  change decode (pack 0b0010#4 0b1111#4 (maskSample res (BitVec.ofNat 16 v)) 0#4) = _
  generalize maskSample res (BitVec.ofNat 16 v) = d
  have row : firstRow (pack 0b0010#4 0b1111#4 d 0#4) = .writeInputUpdateAll := by
    refine firstRow_eq (before := opcodeRows.take 5) rfl (fun q hq => accepts_eq_false_of_cmdField ?_) ?_
    · have others : ∀ q ∈ opcodeRows.take 5, 0b0010#4 &&& cmdField q.mask ≠ cmdField q.pattern := by decide
      simpa using others q hq
    · have mask : 0xFFF0000F#32 = 0xF#4 ++ 0xF#4 ++ 0xF#4 ++ 0#16 ++ 0xF#4 := by decide
      have masked : pack 0b0010#4 0b1111#4 d 0#4 &&& 0xFFF0000F#32 = 0x02F00000#32 := by
        rw [mask, pack_and, BitVec.and_zero]
        decide
      exact (Row.accepts_iff _ _).mpr ⟨masked, rfl⟩
  rw [decode, row]
  simp [buildInstr]

theorem decode_setPowerModeFrame (a : ChannelAddress) (p : PowerMode) :
    decode (setPowerModeFrame specCodes a p) = .setPowerMode a p := by
  cases a with
  | chan c => cases c <;> cases p <;> decide
  | broadcast => cases p <;> decide

theorem decode_setClearCodeFrame (m : ClearCodeMode) : decode (setClearCodeFrame specCodes m) = .setClearCode m := by
  cases m <;> decide

theorem decode_softwareResetFrame : decode (softwareResetFrame specCodes) = .softwareReset := by decide

theorem decode_staticReferenceFrame (r : StaticReference) :
    decode (staticReferenceFrame specCodes r) = .setReferenceModeStatic r := by
  cases r <;> decide

theorem decode_flexReferenceFrame (r : FlexReference) :
    decode (flexReferenceFrame specCodes r) = .setReferenceModeFlex r := by
  cases r <;> decide

/-! ### Eight frames (R185) -/

/-- Eight frames that decode to the writeInputs of their data fields, channel by channel, read as one writeAllChannels
(log 13). -/
theorem decodeFrames_eq_writeAllChannels {fs : List Frame} (count : fs.length = 8)
    (data : fs.map (fun f => (dataField f).toNat) = vs)
    (decoded : fs.map decode = List.zipWith (fun c v => .writeInput (.chan c) v) Channel.all vs) :
    decodeFrames fs = some (.writeAllChannels vs) := by
  subst data
  unfold decodeFrames
  split
  case h_1 => simp at count
  case h_2 => exact if_pos ⟨count, decoded⟩

/-- Each frame's data field is its sample masked. -/
theorem map_dataField_writeAllFrames (res : Resolution) (h : vs.length = 8) :
    (writeAllFrames specCodes res vs).map (fun f => (dataField f).toNat) =
      vs.map fun v => (maskSample res (BitVec.ofNat 16 v)).toNat := by
  apply List.ext_getElem <;> simp [writeAllFrames, writeInputFrame, Channel.all, h]

theorem map_decode_writeAllFrames (res : Resolution) (vs : List Nat) :
    (writeAllFrames specCodes res vs).map decode =
      List.zipWith (fun c v => .writeInput (.chan c) v) Channel.all
        (vs.map fun v => (maskSample res (BitVec.ofNat 16 v)).toNat) := by
  simp only [writeAllFrames, List.map_zipWith, decode_writeInputFrame, List.zipWith_map_right]

theorem decodeFrames_writeAllFrames (h : (Instr.writeAllChannels vs).WellFormed) (res : Resolution) :
    decodeFrames (writeAllFrames specCodes res vs) =
      some (.writeAllChannels (vs.map fun v => (maskSample res (BitVec.ofNat 16 v)).toNat)) :=
  decodeFrames_eq_writeAllChannels (Laws.FrameCount.writeAllChannels vs h specCodes res)
    (map_dataField_writeAllFrames res ((checkSamples_eq_none_iff vs).mp h).1) (map_decode_writeAllFrames res vs)

/-! ### Well-formed operands (R89) -/

/-- The operands of writeInput, and of writeAndUpdate, whose check is the same. -/
theorem exists_chan_of_wellFormed {c : ChannelAddress} {v : Nat} (h : (Instr.writeInput c v).WellFormed) :
    (∃ ch, c = .chan ch) ∧ v < 2 ^ 16 := by
  obtain ⟨channel, sample⟩ := Option.or_eq_none_iff.mp h
  cases c with
  | chan ch => exact ⟨⟨ch, rfl⟩, (checkSample_eq_none_iff v).mp sample⟩
  | broadcast => cases channel

theorem toNat_maskSample_r16 {v : Nat} (h : v < 2 ^ 16) : (maskSample .r16 (BitVec.ofNat 16 v)).toNat = v := by
  rw [maskSample_r16, BitVec.toNat_ofNat, Nat.mod_eq_of_lt h]

/-- At 16 bits the mask changes no well-formed request's samples (R118), so only updateAllChannels is read back as
another request. -/
theorem readBack_r16 (h : i.WellFormed) (notAll : i ≠ .updateAllChannels) : i.readBack .r16 = i := by
  cases i with
  | writeInput c v | writeAndUpdate c v =>
    simp only [Instr.readBack, toNat_maskSample_r16 (exists_chan_of_wellFormed h).2]
  | writeInputUpdateAll v => simp only [Instr.readBack, toNat_maskSample_r16 ((checkSample_eq_none_iff v).mp h)]
  | writeAllChannels vs =>
    have fit := ((checkSamples_eq_none_iff vs).mp h).2
    have unmasked : vs.map (fun v => (maskSample .r16 (BitVec.ofNat 16 v)).toNat) = vs.map id :=
      List.map_congr_left fun v hv => toNat_maskSample_r16 (fit v hv)
    rw [Instr.readBack, unmasked, List.map_id]
  | updateAllChannels => exact absurd rfl notAll
  | _ => rfl

/-! ### The round trip (R92) -/

/-- Settles O8, operation by operation; updateAllChannels is sent as the frame of update(Broadcast). -/
theorem decodeReadsBackMaskedSamples : Obligations.DecodeReadsBackMaskedSamples := by
  intro i res wellFormed typed
  cases i with
  | writeInput c v =>
    obtain ⟨⟨ch, rfl⟩, -⟩ := exists_chan_of_wellFormed wellFormed
    exact congrArg some (decode_writeInputFrame res ch v)
  | writeAndUpdate c v =>
    obtain ⟨⟨ch, rfl⟩, -⟩ := exists_chan_of_wellFormed wellFormed
    exact congrArg some (decode_writeAndUpdateFrame res ch v)
  | writeAllChannels vs => exact decodeFrames_writeAllFrames wellFormed res
  | writeInputUpdateAll v => exact congrArg some (decode_writeInputUpdateAllFrame res v)
  | update a => exact congrArg some (decode_updateFrame a)
  | updateAllChannels => exact congrArg some (decode_updateFrame .broadcast)
  | setPowerMode a p => exact congrArg some (decode_setPowerModeFrame a p)
  | setClearCode m => exact congrArg some (decode_setClearCodeFrame m)
  | softwareReset => exact congrArg some decode_softwareResetFrame
  | setReferenceModeStatic r => exact congrArg some (decode_staticReferenceFrame r)
  | setReferenceModeFlex r => exact congrArg some (decode_flexReferenceFrame r)
  | sendRawFrame | sendRawBytes => cases typed

/-- Settles O7: the round trip of O8 at 16 bits, where nothing is masked off. -/
theorem decodeEncodeAgree : Obligations.DecodeEncodeAgree := by
  intro i wellFormed typed notAll
  rw [decodeReadsBackMaskedSamples i .r16 wellFormed typed, readBack_r16 wellFormed notAll]

end Sys2Proof.Proofs.RoundTrip
